-- ==== Sys2Proof/Word.lean ====
section
/-! DEFINITION. The word types of the CORE (00_scope.md R12, R16) and the two instances of the CIA (R1, R25). -/

namespace Sys2Proof

/-- A byte: 8 bits, unsigned (00_scope.md R16). -/
abbrev Byte := BitVec 8

/-- A bus address: 16 bits (00_scope.md R12). -/
abbrev Addr := BitVec 16

/-- A colour index: 4 bits per pixel (10_state.md R82, D35). -/
abbrev Colour := BitVec 4

/-- The two controllers: CIA1 (keyboard, joystick, IRQ) and CIA2 (bank select, NMI) (00_scope.md R25, D53). -/
inductive CiaId where
  | cia1
  | cia2
  deriving DecidableEq, Repr, Inhabited

/-- Two register bytes as one little-endian word (20_memory.md R115). -/
def pair (lo hi : Byte) : BitVec 16 := hi ++ lo

end Sys2Proof
end

