-- ==== Sys2Proof/Syntax.lean ====
section
/-! DEFINITION. The operations of the CORE: one constructor per mnemonic of spec/opcode_table.json (30_encoding.md R140-R145). -/

namespace Sys2Proof

/-- The operations. A BUS constructor carries the decode word's two operand fields, the bank mode and the address
(30_encoding.md R140); its direction is in its name and the data byte is no part of the word (R146). A CIA constructor
carries the instance where its row matches both (R143); a VIC constructor carries the register index where its group
has more than one (R144, R156). -/
inductive Instr where
  /-- BUS_RD_RAM (R360). -/
  | busRdRam (mode : BitVec 3) (a : Addr)
  /-- BUS_RD_VIC (R363). -/
  | busRdVic (mode : BitVec 3) (a : Addr)
  /-- BUS_RD_SID (R364). -/
  | busRdSid (mode : BitVec 3) (a : Addr)
  /-- BUS_RD_COLOR (R365). -/
  | busRdColor (mode : BitVec 3) (a : Addr)
  /-- BUS_RD_CIA1 (R361). -/
  | busRdCia1 (mode : BitVec 3) (a : Addr)
  /-- BUS_RD_CIA2 (R362). -/
  | busRdCia2 (mode : BitVec 3) (a : Addr)
  /-- BUS_RD_IOEXP (R366). -/
  | busRdIoexp (mode : BitVec 3) (a : Addr)
  /-- BUS_RD_CHAR (R367). -/
  | busRdChar (mode : BitVec 3) (a : Addr)
  /-- BUS_RD_BASIC (R368). -/
  | busRdBasic (mode : BitVec 3) (a : Addr)
  /-- BUS_RD_KERNAL (R369). -/
  | busRdKernal (mode : BitVec 3) (a : Addr)
  /-- BUS_WR_RAM (R370). -/
  | busWrRam (mode : BitVec 3) (a : Addr)
  /-- BUS_WR_VIC (R373). -/
  | busWrVic (mode : BitVec 3) (a : Addr)
  /-- BUS_WR_SID (R374). -/
  | busWrSid (mode : BitVec 3) (a : Addr)
  /-- BUS_WR_COLOR (R375). -/
  | busWrColor (mode : BitVec 3) (a : Addr)
  /-- BUS_WR_CIA1 (R371). -/
  | busWrCia1 (mode : BitVec 3) (a : Addr)
  /-- BUS_WR_CIA2 (R372). -/
  | busWrCia2 (mode : BitVec 3) (a : Addr)
  /-- BUS_WR_IOEXP (R376). -/
  | busWrIoexp (mode : BitVec 3) (a : Addr)
  /-- CIA1_RD_PRA (R191). -/
  | cia1RdPra
  /-- CIA2_RD_PRA (R196). -/
  | cia2RdPra
  /-- CIA1_RD_PRB (R193). -/
  | cia1RdPrb
  /-- CIA2_RD_PRB (R197). -/
  | cia2RdPrb
  /-- CIA_RD_DDRA (R198). -/
  | ciaRdDdra (k : CiaId)
  /-- CIA_RD_DDRB (R199). -/
  | ciaRdDdrb (k : CiaId)
  /-- CIA_RD_TALO (R200). -/
  | ciaRdTalo (k : CiaId)
  /-- CIA_RD_TAHI (R201). -/
  | ciaRdTahi (k : CiaId)
  /-- CIA_RD_TBLO (R202). -/
  | ciaRdTblo (k : CiaId)
  /-- CIA_RD_TBHI (R203). -/
  | ciaRdTbhi (k : CiaId)
  /-- CIA_RD_TOD10 (R204). -/
  | ciaRdTod10 (k : CiaId)
  /-- CIA_RD_TODSEC (R205). -/
  | ciaRdTodsec (k : CiaId)
  /-- CIA_RD_TODMIN (R206). -/
  | ciaRdTodmin (k : CiaId)
  /-- CIA_RD_TODHR (R207). -/
  | ciaRdTodhr (k : CiaId)
  /-- CIA_RD_SDR (R208). -/
  | ciaRdSdr (k : CiaId)
  /-- CIA_RD_ICR (R209). -/
  | ciaRdIcr (k : CiaId)
  /-- CIA_RD_CRA (R210). -/
  | ciaRdCra (k : CiaId)
  /-- CIA_RD_CRB (R211). -/
  | ciaRdCrb (k : CiaId)
  /-- CIA_WR_PRA (R216). -/
  | ciaWrPra (k : CiaId)
  /-- CIA_WR_PRB (R217). -/
  | ciaWrPrb (k : CiaId)
  /-- CIA_WR_DDRA (R218). -/
  | ciaWrDdra (k : CiaId)
  /-- CIA_WR_DDRB (R219). -/
  | ciaWrDdrb (k : CiaId)
  /-- CIA_WR_TALO (R220). -/
  | ciaWrTalo (k : CiaId)
  /-- CIA_WR_TAHI (R221). -/
  | ciaWrTahi (k : CiaId)
  /-- CIA_WR_TBLO (R222). -/
  | ciaWrTblo (k : CiaId)
  /-- CIA_WR_TBHI (R223). -/
  | ciaWrTbhi (k : CiaId)
  /-- CIA_WR_TOD10 (R224). -/
  | ciaWrTod10 (k : CiaId)
  /-- CIA_WR_TODSEC (R225). -/
  | ciaWrTodsec (k : CiaId)
  /-- CIA_WR_TODMIN (R226). -/
  | ciaWrTodmin (k : CiaId)
  /-- CIA_WR_TODHR (R227). -/
  | ciaWrTodhr (k : CiaId)
  /-- CIA_WR_SDR (R228). -/
  | ciaWrSdr (k : CiaId)
  /-- CIA_WR_ICR (R229). -/
  | ciaWrIcr (k : CiaId)
  /-- CIA_WR_CRA (R230). -/
  | ciaWrCra (k : CiaId)
  /-- CIA_WR_CRB (R231). -/
  | ciaWrCrb (k : CiaId)
  /-- VIC_RD_SPRPOS (R262). -/
  | vicRdSprpos (i : BitVec 6)
  /-- VIC_RD_CR1 (R263). -/
  | vicRdCr1
  /-- VIC_RD_RASTER (R264). -/
  | vicRdRaster
  /-- VIC_RD_LP (R265). -/
  | vicRdLp (i : BitVec 6)
  /-- VIC_RD_SPREN (R266). -/
  | vicRdSpren
  /-- VIC_RD_CR2 (R267). -/
  | vicRdCr2
  /-- VIC_RD_SPRYEX (R268). -/
  | vicRdSpryex
  /-- VIC_RD_MEMPTR (R269). -/
  | vicRdMemptr
  /-- VIC_RD_IRQFLAG (R270). -/
  | vicRdIrqflag
  /-- VIC_RD_IRQMASK (R271). -/
  | vicRdIrqmask
  /-- VIC_RD_SPRMISC (R272). -/
  | vicRdSprmisc (i : BitVec 6)
  /-- VIC_RD_COLL (R273). -/
  | vicRdColl (i : BitVec 6)
  /-- VIC_RD_BORDER (R274). -/
  | vicRdBorder
  /-- VIC_RD_BG (R275). -/
  | vicRdBg (i : BitVec 6)
  /-- VIC_RD_SPRCOL (R276). -/
  | vicRdSprcol (i : BitVec 6)
  /-- VIC_RD_UNUSED (R277). -/
  | vicRdUnused (i : BitVec 6)
  /-- VIC_WR_SPRPOS (R280). -/
  | vicWrSprpos (i : BitVec 6)
  /-- VIC_WR_CR1 (R281). -/
  | vicWrCr1
  /-- VIC_WR_RASTER (R282). -/
  | vicWrRaster
  /-- VIC_WR_LP (R283). -/
  | vicWrLp (i : BitVec 6)
  /-- VIC_WR_SPREN (R284). -/
  | vicWrSpren
  /-- VIC_WR_CR2 (R285). -/
  | vicWrCr2
  /-- VIC_WR_SPRYEX (R286). -/
  | vicWrSpryex
  /-- VIC_WR_MEMPTR (R287). -/
  | vicWrMemptr
  /-- VIC_WR_IRQFLAG (R288). -/
  | vicWrIrqflag
  /-- VIC_WR_IRQMASK (R289). -/
  | vicWrIrqmask
  /-- VIC_WR_SPRMISC (R290). -/
  | vicWrSprmisc (i : BitVec 6)
  /-- VIC_WR_COLL (R291). -/
  | vicWrColl (i : BitVec 6)
  /-- VIC_WR_BORDER (R292). -/
  | vicWrBorder
  /-- VIC_WR_BG (R293). -/
  | vicWrBg (i : BitVec 6)
  /-- VIC_WR_SPRCOL (R294). -/
  | vicWrSprcol (i : BitVec 6)
  /-- VIC_WR_UNUSED (R295). -/
  | vicWrUnused (i : BitVec 6)
  /-- CLK (R350). -/
  | clk
  /-- RESET (R450). -/
  | reset
  deriving DecidableEq, Repr

end Sys2Proof
end

