-- ==== Sys2Proof/WellFormed.lean ====
section
/-! DEFINITION. When an operation is well formed: its operands are ones its row of the opcode table matches. Written from the
decode FUNCTION of 20_memory.md R110 and R111 and the register maps R155, R156; Decode.lean is written from the ROWS of
30_encoding.md R153-R157, so that the round trip of the two says that they agree (R141). -/

namespace Sys2Proof

/-- The owners of a read, in the order of 20_memory.md R110. -/
inductive Target where
  | ram
  | vic
  | sid
  | color
  | cia1
  | cia2
  | ioexp
  | char
  | basic
  | kernal
  deriving DecidableEq, Repr

/-- The read decode `target(1, mode, A)` of 20_memory.md R110, in its priority order; `none` is its last line, the gap that
no address reaches (R112). -/
def readTarget (mode : BitVec 3) (a : Addr) : Option Target :=
  let l := mode.getLsbD 0
  let h := mode.getLsbD 1
  let c := mode.getLsbD 2
  let n := a.toNat
  if n ≤ 0x9FFF || (0xC000 ≤ n && n ≤ 0xCFFF) then some .ram
  else if 0xD000 ≤ n && n ≤ 0xDFFF then
    if c && (l || h) then
      if n ≤ 0xD3FF then some .vic
      else if n ≤ 0xD7FF then some .sid
      else if n ≤ 0xDBFF then some .color
      else if n ≤ 0xDCFF then some .cia1
      else if n ≤ 0xDDFF then some .cia2
      else some .ioexp
    else if !c && (l || h) then some .char
    else some .ram
  else if 0xA000 ≤ n && n ≤ 0xBFFF then some (if l && h then .basic else .ram)
  else if 0xE000 ≤ n then some (if h then .kernal else .ram)
  else none

/-- A write is a plain RAM write when no I/O window takes it (20_memory.md R111: RAM, CHAR, BASIC, KERNAL: nothing more). -/
def plainWrite (mode : BitVec 3) (a : Addr) : Bool :=
  readTarget mode a == some .ram || readTarget mode a == some .char || readTarget mode a == some .basic
    || readTarget mode a == some .kernal

/-- A VIC register index inside a group's range (30_encoding.md R156). -/
def inGroup (lo hi : Nat) (i : BitVec 6) : Bool := lo ≤ i.toNat && i.toNat ≤ hi

/-- Whether the operands are ones a row of the operation's mnemonic matches. -/
def Instr.wellFormed : Instr → Bool
  | .busRdRam m a => readTarget m a == some .ram
  | .busRdVic m a => readTarget m a == some .vic
  | .busRdSid m a => readTarget m a == some .sid
  | .busRdColor m a => readTarget m a == some .color
  | .busRdCia1 m a => readTarget m a == some .cia1
  | .busRdCia2 m a => readTarget m a == some .cia2
  | .busRdIoexp m a => readTarget m a == some .ioexp
  | .busRdChar m a => readTarget m a == some .char
  | .busRdBasic m a => readTarget m a == some .basic
  | .busRdKernal m a => readTarget m a == some .kernal
  | .busWrRam m a => plainWrite m a
  | .busWrVic m a => readTarget m a == some .vic
  | .busWrSid m a => readTarget m a == some .sid
  | .busWrColor m a => readTarget m a == some .color
  | .busWrCia1 m a => readTarget m a == some .cia1
  | .busWrCia2 m a => readTarget m a == some .cia2
  | .busWrIoexp m a => readTarget m a == some .ioexp
  | .cia1RdPra => true
  | .cia2RdPra => true
  | .cia1RdPrb => true
  | .cia2RdPrb => true
  | .ciaRdDdra _ => true
  | .ciaRdDdrb _ => true
  | .ciaRdTalo _ => true
  | .ciaRdTahi _ => true
  | .ciaRdTblo _ => true
  | .ciaRdTbhi _ => true
  | .ciaRdTod10 _ => true
  | .ciaRdTodsec _ => true
  | .ciaRdTodmin _ => true
  | .ciaRdTodhr _ => true
  | .ciaRdSdr _ => true
  | .ciaRdIcr _ => true
  | .ciaRdCra _ => true
  | .ciaRdCrb _ => true
  | .ciaWrPra _ => true
  | .ciaWrPrb _ => true
  | .ciaWrDdra _ => true
  | .ciaWrDdrb _ => true
  | .ciaWrTalo _ => true
  | .ciaWrTahi _ => true
  | .ciaWrTblo _ => true
  | .ciaWrTbhi _ => true
  | .ciaWrTod10 _ => true
  | .ciaWrTodsec _ => true
  | .ciaWrTodmin _ => true
  | .ciaWrTodhr _ => true
  | .ciaWrSdr _ => true
  | .ciaWrIcr _ => true
  | .ciaWrCra _ => true
  | .ciaWrCrb _ => true
  | .vicRdSprpos i => inGroup 0x00 0x10 i
  | .vicRdCr1 => true
  | .vicRdRaster => true
  | .vicRdLp i => inGroup 0x13 0x14 i
  | .vicRdSpren => true
  | .vicRdCr2 => true
  | .vicRdSpryex => true
  | .vicRdMemptr => true
  | .vicRdIrqflag => true
  | .vicRdIrqmask => true
  | .vicRdSprmisc i => inGroup 0x1B 0x1D i
  | .vicRdColl i => inGroup 0x1E 0x1F i
  | .vicRdBorder => true
  | .vicRdBg i => inGroup 0x21 0x24 i
  | .vicRdSprcol i => inGroup 0x25 0x2E i
  | .vicRdUnused i => inGroup 0x2F 0x3F i
  | .vicWrSprpos i => inGroup 0x00 0x10 i
  | .vicWrCr1 => true
  | .vicWrRaster => true
  | .vicWrLp i => inGroup 0x13 0x14 i
  | .vicWrSpren => true
  | .vicWrCr2 => true
  | .vicWrSpryex => true
  | .vicWrMemptr => true
  | .vicWrIrqflag => true
  | .vicWrIrqmask => true
  | .vicWrSprmisc i => inGroup 0x1B 0x1D i
  | .vicWrColl i => inGroup 0x1E 0x1F i
  | .vicWrBorder => true
  | .vicWrBg i => inGroup 0x21 0x24 i
  | .vicWrSprcol i => inGroup 0x25 0x2E i
  | .vicWrUnused i => inGroup 0x2F 0x3F i
  | .clk => true
  | .reset => true

end Sys2Proof
end

