-- ==== Sys2Proof/Decode.lean ====
section
/-! DEFINITION. The four decode formats of 30_encoding.md (R140, R143, R144, R145), the opcode table's 129 rows (R153-R157), the
decoder, total on any word and any bytes, and the encoder. -/

namespace Sys2Proof

/-- The four decode formats (30_encoding.md section 1). -/
inductive Format where
  | bus
  | cia
  | vic
  | event
  deriving DecidableEq, Repr

/-- A decode word with its format and its width: BUS 20 bits (R140), CIA 6 (R143), VIC 7 (R144), EVENT 1 (R145). -/
inductive CodeWord where
  | bus (w : BitVec 20)
  | cia (w : BitVec 6)
  | vic (w : BitVec 7)
  | event (w : BitVec 1)
  deriving DecidableEq, Repr

/-- Why a word or a string of bytes is no operation. The four gaps are never reached: every table is total (R141, R158). -/
inductive DecodeError where
  /-- A BUS word that no row matches: the decode gap of 20_memory.md R113. -/
  | busGap (w : BitVec 20)
  /-- A CIA select word that no row matches. -/
  | ciaGap (w : BitVec 6)
  /-- A VIC select word that no row matches. -/
  | vicGap (w : BitVec 7)
  /-- An event code that no row matches. -/
  | eventGap (w : BitVec 1)
  /-- Fewer bytes than the format's word takes. -/
  | truncated (f : Format)
  /-- A bit above the format's width is set. -/
  | tooWide (f : Format)
  deriving DecidableEq, Repr

/-- The operations of the BUS rows. -/
inductive BusOp where
  | rdRam
  | rdVic
  | rdSid
  | rdColor
  | rdCia1
  | rdCia2
  | rdIoexp
  | rdChar
  | rdBasic
  | rdKernal
  | wrRam
  | wrVic
  | wrSid
  | wrColor
  | wrCia1
  | wrCia2
  | wrIoexp
  deriving DecidableEq, Repr

/-- The operations of the CIA rows; `rdPra1` and its like are those of one instance. -/
inductive CiaOp where
  | rdPra1
  | rdPra2
  | rdPrb1
  | rdPrb2
  | rdDdra
  | rdDdrb
  | rdTalo
  | rdTahi
  | rdTblo
  | rdTbhi
  | rdTod10
  | rdTodsec
  | rdTodmin
  | rdTodhr
  | rdSdr
  | rdIcr
  | rdCra
  | rdCrb
  | wrPra
  | wrPrb
  | wrDdra
  | wrDdrb
  | wrTalo
  | wrTahi
  | wrTblo
  | wrTbhi
  | wrTod10
  | wrTodsec
  | wrTodmin
  | wrTodhr
  | wrSdr
  | wrIcr
  | wrCra
  | wrCrb
  deriving DecidableEq, Repr

/-- The operations of the VIC rows. -/
inductive VicOp where
  | rdSprpos
  | rdCr1
  | rdRaster
  | rdLp
  | rdSpren
  | rdCr2
  | rdSpryex
  | rdMemptr
  | rdIrqflag
  | rdIrqmask
  | rdSprmisc
  | rdColl
  | rdBorder
  | rdBg
  | rdSprcol
  | rdUnused
  | wrSprpos
  | wrCr1
  | wrRaster
  | wrLp
  | wrSpren
  | wrCr2
  | wrSpryex
  | wrMemptr
  | wrIrqflag
  | wrIrqmask
  | wrSprmisc
  | wrColl
  | wrBorder
  | wrBg
  | wrSprcol
  | wrUnused
  deriving DecidableEq, Repr

/-- The two entry points of the core (R145, R157). -/
inductive EventOp where
  | clk
  | reset
  deriving DecidableEq, Repr

/-- One row of the opcode table: a word w of n bits selects it when `w &&& mask = val` (30_encoding.md R141). -/
structure Row (n : Nat) (α : Type) where
  mask : BitVec n
  val : BitVec n
  op : α
  deriving DecidableEq, Repr

/-- The BUS read rows of the opcode table (30_encoding.md R153 (reads), R154 (writes)). -/
def busReadRows : List (Row 20 BusOp) :=
  [ ⟨0x88000#20, 0x80000#20, .rdRam⟩
  , ⟨0x8E000#20, 0x88000#20, .rdRam⟩
  , ⟨0x8F000#20, 0x8C000#20, .rdRam⟩
  , ⟨0x9E000#20, 0x8A000#20, .rdRam⟩
  , ⟨0xBE000#20, 0x9A000#20, .rdRam⟩
  , ⟨0xBF000#20, 0x8D000#20, .rdRam⟩
  , ⟨0xAE000#20, 0x8E000#20, .rdRam⟩
  , ⟨0xFFC00#20, 0xDD000#20, .rdVic⟩
  , ⟨0xEFC00#20, 0xED000#20, .rdVic⟩
  , ⟨0xFFC00#20, 0xDD400#20, .rdSid⟩
  , ⟨0xEFC00#20, 0xED400#20, .rdSid⟩
  , ⟨0xFFC00#20, 0xDD800#20, .rdColor⟩
  , ⟨0xEFC00#20, 0xED800#20, .rdColor⟩
  , ⟨0xFFF00#20, 0xDDC00#20, .rdCia1⟩
  , ⟨0xEFF00#20, 0xEDC00#20, .rdCia1⟩
  , ⟨0xFFF00#20, 0xDDD00#20, .rdCia2⟩
  , ⟨0xEFF00#20, 0xEDD00#20, .rdCia2⟩
  , ⟨0xFFE00#20, 0xDDE00#20, .rdIoexp⟩
  , ⟨0xEFE00#20, 0xEDE00#20, .rdIoexp⟩
  , ⟨0xFF000#20, 0x9D000#20, .rdChar⟩
  , ⟨0xEF000#20, 0xAD000#20, .rdChar⟩
  , ⟨0xBE000#20, 0xBA000#20, .rdBasic⟩
  , ⟨0xAE000#20, 0xAE000#20, .rdKernal⟩ ]

/-- The BUS write rows of the opcode table (30_encoding.md R153 (reads), R154 (writes)). -/
def busWriteRows : List (Row 20 BusOp) :=
  [ ⟨0x88000#20, 0x00000#20, .wrRam⟩
  , ⟨0x8C000#20, 0x08000#20, .wrRam⟩
  , ⟨0x8F000#20, 0x0C000#20, .wrRam⟩
  , ⟨0x8E000#20, 0x0E000#20, .wrRam⟩
  , ⟨0xCF000#20, 0x0D000#20, .wrRam⟩
  , ⟨0xFF000#20, 0x4D000#20, .wrRam⟩
  , ⟨0xFFC00#20, 0x5D000#20, .wrVic⟩
  , ⟨0xEFC00#20, 0x6D000#20, .wrVic⟩
  , ⟨0xFFC00#20, 0x5D400#20, .wrSid⟩
  , ⟨0xEFC00#20, 0x6D400#20, .wrSid⟩
  , ⟨0xFFC00#20, 0x5D800#20, .wrColor⟩
  , ⟨0xEFC00#20, 0x6D800#20, .wrColor⟩
  , ⟨0xFFF00#20, 0x5DC00#20, .wrCia1⟩
  , ⟨0xEFF00#20, 0x6DC00#20, .wrCia1⟩
  , ⟨0xFFF00#20, 0x5DD00#20, .wrCia2⟩
  , ⟨0xEFF00#20, 0x6DD00#20, .wrCia2⟩
  , ⟨0xFFE00#20, 0x5DE00#20, .wrIoexp⟩
  , ⟨0xEFE00#20, 0x6DE00#20, .wrIoexp⟩ ]

/-- All BUS rows. -/
def busRows : List (Row 20 BusOp) := busReadRows ++ busWriteRows

/-- The CIA read rows of the opcode table (30_encoding.md R155). -/
def ciaReadRows : List (Row 6 CiaOp) :=
  [ ⟨0x3F#6, 0x10#6, .rdPra1⟩
  , ⟨0x3F#6, 0x30#6, .rdPra2⟩
  , ⟨0x3F#6, 0x11#6, .rdPrb1⟩
  , ⟨0x3F#6, 0x31#6, .rdPrb2⟩
  , ⟨0x1F#6, 0x12#6, .rdDdra⟩
  , ⟨0x1F#6, 0x13#6, .rdDdrb⟩
  , ⟨0x1F#6, 0x14#6, .rdTalo⟩
  , ⟨0x1F#6, 0x15#6, .rdTahi⟩
  , ⟨0x1F#6, 0x16#6, .rdTblo⟩
  , ⟨0x1F#6, 0x17#6, .rdTbhi⟩
  , ⟨0x1F#6, 0x18#6, .rdTod10⟩
  , ⟨0x1F#6, 0x19#6, .rdTodsec⟩
  , ⟨0x1F#6, 0x1A#6, .rdTodmin⟩
  , ⟨0x1F#6, 0x1B#6, .rdTodhr⟩
  , ⟨0x1F#6, 0x1C#6, .rdSdr⟩
  , ⟨0x1F#6, 0x1D#6, .rdIcr⟩
  , ⟨0x1F#6, 0x1E#6, .rdCra⟩
  , ⟨0x1F#6, 0x1F#6, .rdCrb⟩ ]

/-- The CIA write rows of the opcode table (30_encoding.md R155). -/
def ciaWriteRows : List (Row 6 CiaOp) :=
  [ ⟨0x1F#6, 0x00#6, .wrPra⟩
  , ⟨0x1F#6, 0x01#6, .wrPrb⟩
  , ⟨0x1F#6, 0x02#6, .wrDdra⟩
  , ⟨0x1F#6, 0x03#6, .wrDdrb⟩
  , ⟨0x1F#6, 0x04#6, .wrTalo⟩
  , ⟨0x1F#6, 0x05#6, .wrTahi⟩
  , ⟨0x1F#6, 0x06#6, .wrTblo⟩
  , ⟨0x1F#6, 0x07#6, .wrTbhi⟩
  , ⟨0x1F#6, 0x08#6, .wrTod10⟩
  , ⟨0x1F#6, 0x09#6, .wrTodsec⟩
  , ⟨0x1F#6, 0x0A#6, .wrTodmin⟩
  , ⟨0x1F#6, 0x0B#6, .wrTodhr⟩
  , ⟨0x1F#6, 0x0C#6, .wrSdr⟩
  , ⟨0x1F#6, 0x0D#6, .wrIcr⟩
  , ⟨0x1F#6, 0x0E#6, .wrCra⟩
  , ⟨0x1F#6, 0x0F#6, .wrCrb⟩ ]

/-- All CIA rows. -/
def ciaRows : List (Row 6 CiaOp) := ciaReadRows ++ ciaWriteRows

/-- The VIC read rows of the opcode table (30_encoding.md R156). -/
def vicReadRows : List (Row 7 VicOp) :=
  [ ⟨0x70#7, 0x40#7, .rdSprpos⟩
  , ⟨0x7F#7, 0x50#7, .rdSprpos⟩
  , ⟨0x7F#7, 0x51#7, .rdCr1⟩
  , ⟨0x7F#7, 0x52#7, .rdRaster⟩
  , ⟨0x7F#7, 0x53#7, .rdLp⟩
  , ⟨0x7F#7, 0x54#7, .rdLp⟩
  , ⟨0x7F#7, 0x55#7, .rdSpren⟩
  , ⟨0x7F#7, 0x56#7, .rdCr2⟩
  , ⟨0x7F#7, 0x57#7, .rdSpryex⟩
  , ⟨0x7F#7, 0x58#7, .rdMemptr⟩
  , ⟨0x7F#7, 0x59#7, .rdIrqflag⟩
  , ⟨0x7F#7, 0x5A#7, .rdIrqmask⟩
  , ⟨0x7F#7, 0x5B#7, .rdSprmisc⟩
  , ⟨0x7E#7, 0x5C#7, .rdSprmisc⟩
  , ⟨0x7E#7, 0x5E#7, .rdColl⟩
  , ⟨0x7F#7, 0x60#7, .rdBorder⟩
  , ⟨0x7F#7, 0x61#7, .rdBg⟩
  , ⟨0x7E#7, 0x62#7, .rdBg⟩
  , ⟨0x7F#7, 0x64#7, .rdBg⟩
  , ⟨0x7F#7, 0x65#7, .rdSprcol⟩
  , ⟨0x7E#7, 0x66#7, .rdSprcol⟩
  , ⟨0x7C#7, 0x68#7, .rdSprcol⟩
  , ⟨0x7E#7, 0x6C#7, .rdSprcol⟩
  , ⟨0x7F#7, 0x6E#7, .rdSprcol⟩
  , ⟨0x7F#7, 0x6F#7, .rdUnused⟩
  , ⟨0x70#7, 0x70#7, .rdUnused⟩ ]

/-- The VIC write rows of the opcode table (30_encoding.md R156). -/
def vicWriteRows : List (Row 7 VicOp) :=
  [ ⟨0x70#7, 0x00#7, .wrSprpos⟩
  , ⟨0x7F#7, 0x10#7, .wrSprpos⟩
  , ⟨0x7F#7, 0x11#7, .wrCr1⟩
  , ⟨0x7F#7, 0x12#7, .wrRaster⟩
  , ⟨0x7F#7, 0x13#7, .wrLp⟩
  , ⟨0x7F#7, 0x14#7, .wrLp⟩
  , ⟨0x7F#7, 0x15#7, .wrSpren⟩
  , ⟨0x7F#7, 0x16#7, .wrCr2⟩
  , ⟨0x7F#7, 0x17#7, .wrSpryex⟩
  , ⟨0x7F#7, 0x18#7, .wrMemptr⟩
  , ⟨0x7F#7, 0x19#7, .wrIrqflag⟩
  , ⟨0x7F#7, 0x1A#7, .wrIrqmask⟩
  , ⟨0x7F#7, 0x1B#7, .wrSprmisc⟩
  , ⟨0x7E#7, 0x1C#7, .wrSprmisc⟩
  , ⟨0x7E#7, 0x1E#7, .wrColl⟩
  , ⟨0x7F#7, 0x20#7, .wrBorder⟩
  , ⟨0x7F#7, 0x21#7, .wrBg⟩
  , ⟨0x7E#7, 0x22#7, .wrBg⟩
  , ⟨0x7F#7, 0x24#7, .wrBg⟩
  , ⟨0x7F#7, 0x25#7, .wrSprcol⟩
  , ⟨0x7E#7, 0x26#7, .wrSprcol⟩
  , ⟨0x7C#7, 0x28#7, .wrSprcol⟩
  , ⟨0x7E#7, 0x2C#7, .wrSprcol⟩
  , ⟨0x7F#7, 0x2E#7, .wrSprcol⟩
  , ⟨0x7F#7, 0x2F#7, .wrUnused⟩
  , ⟨0x70#7, 0x30#7, .wrUnused⟩ ]

/-- All VIC rows. -/
def vicRows : List (Row 7 VicOp) := vicReadRows ++ vicWriteRows

/-- The EVENT rows of the opcode table (30_encoding.md R157). -/
def eventRows : List (Row 1 EventOp) :=
  [ ⟨1#1, 0#1, .clk⟩
  , ⟨1#1, 1#1, .reset⟩ ]

/-- The operation of the row a word selects (30_encoding.md R141). -/
def lookupRow {n : Nat} {α : Type} : List (Row n α) → BitVec n → Option α
  | [], _ => none
  | r :: rs, w => if w &&& r.mask = r.val then some r.op else lookupRow rs w

/-- The BUS decode word `RW << 19 | mode << 16 | A` (30_encoding.md R140). -/
def busWord (rw : Bool) (mode : BitVec 3) (a : Addr) : BitVec 20 := (BitVec.ofBool rw ++ mode) ++ a

/-- The mode field of a BUS word: bits 18:16 (R140). -/
def busMode (w : BitVec 20) : BitVec 3 := w.extractLsb' 16 3

/-- The address field of a BUS word: bits 15:0 (R140). -/
def busAddr (w : BitVec 20) : Addr := w.extractLsb' 0 16

/-- The direction of a BUS word: bit 19, 1 = read (R140). -/
def busRead (w : BitVec 20) : Bool := w.getLsbD 19

/-- INST of a CIA select word: 0 for CIA1, 1 for CIA2 (R143). -/
def CiaId.bit : CiaId → Bool
  | .cia1 => false
  | .cia2 => true

/-- The instance a CIA select word names: bit 5 (R143). -/
def ciaInst (w : BitVec 6) : CiaId := if w.getLsbD 5 then .cia2 else .cia1

/-- The CIA select word `inst << 5 | RW << 4 | idx` (30_encoding.md R143). -/
def ciaWord (k : CiaId) (rw : Bool) (idx : BitVec 4) : BitVec 6 := (BitVec.ofBool k.bit ++ BitVec.ofBool rw) ++ idx

/-- The VIC select word `RW << 6 | idx` (30_encoding.md R144). -/
def vicWord (rw : Bool) (idx : BitVec 6) : BitVec 7 := BitVec.ofBool rw ++ idx

/-- The register index of a VIC select word: bits 5:0 (R144). -/
def vicIndex (w : BitVec 7) : BitVec 6 := w.extractLsb' 0 6

/-- The operation of a BUS row on the word's mode and address. -/
def BusOp.instr : BusOp → BitVec 3 → Addr → Instr
  | .rdRam, m, a => .busRdRam m a
  | .rdVic, m, a => .busRdVic m a
  | .rdSid, m, a => .busRdSid m a
  | .rdColor, m, a => .busRdColor m a
  | .rdCia1, m, a => .busRdCia1 m a
  | .rdCia2, m, a => .busRdCia2 m a
  | .rdIoexp, m, a => .busRdIoexp m a
  | .rdChar, m, a => .busRdChar m a
  | .rdBasic, m, a => .busRdBasic m a
  | .rdKernal, m, a => .busRdKernal m a
  | .wrRam, m, a => .busWrRam m a
  | .wrVic, m, a => .busWrVic m a
  | .wrSid, m, a => .busWrSid m a
  | .wrColor, m, a => .busWrColor m a
  | .wrCia1, m, a => .busWrCia1 m a
  | .wrCia2, m, a => .busWrCia2 m a
  | .wrIoexp, m, a => .busWrIoexp m a

/-- The operation of a CIA row on the word's instance. -/
def CiaOp.instr : CiaOp → CiaId → Instr
  | .rdPra1, _ => .cia1RdPra
  | .rdPra2, _ => .cia2RdPra
  | .rdPrb1, _ => .cia1RdPrb
  | .rdPrb2, _ => .cia2RdPrb
  | .rdDdra, k => .ciaRdDdra k
  | .rdDdrb, k => .ciaRdDdrb k
  | .rdTalo, k => .ciaRdTalo k
  | .rdTahi, k => .ciaRdTahi k
  | .rdTblo, k => .ciaRdTblo k
  | .rdTbhi, k => .ciaRdTbhi k
  | .rdTod10, k => .ciaRdTod10 k
  | .rdTodsec, k => .ciaRdTodsec k
  | .rdTodmin, k => .ciaRdTodmin k
  | .rdTodhr, k => .ciaRdTodhr k
  | .rdSdr, k => .ciaRdSdr k
  | .rdIcr, k => .ciaRdIcr k
  | .rdCra, k => .ciaRdCra k
  | .rdCrb, k => .ciaRdCrb k
  | .wrPra, k => .ciaWrPra k
  | .wrPrb, k => .ciaWrPrb k
  | .wrDdra, k => .ciaWrDdra k
  | .wrDdrb, k => .ciaWrDdrb k
  | .wrTalo, k => .ciaWrTalo k
  | .wrTahi, k => .ciaWrTahi k
  | .wrTblo, k => .ciaWrTblo k
  | .wrTbhi, k => .ciaWrTbhi k
  | .wrTod10, k => .ciaWrTod10 k
  | .wrTodsec, k => .ciaWrTodsec k
  | .wrTodmin, k => .ciaWrTodmin k
  | .wrTodhr, k => .ciaWrTodhr k
  | .wrSdr, k => .ciaWrSdr k
  | .wrIcr, k => .ciaWrIcr k
  | .wrCra, k => .ciaWrCra k
  | .wrCrb, k => .ciaWrCrb k

/-- The operation of a VIC row on the word's register index. -/
def VicOp.instr : VicOp → BitVec 6 → Instr
  | .rdSprpos, i => .vicRdSprpos i
  | .rdCr1, _ => .vicRdCr1
  | .rdRaster, _ => .vicRdRaster
  | .rdLp, i => .vicRdLp i
  | .rdSpren, _ => .vicRdSpren
  | .rdCr2, _ => .vicRdCr2
  | .rdSpryex, _ => .vicRdSpryex
  | .rdMemptr, _ => .vicRdMemptr
  | .rdIrqflag, _ => .vicRdIrqflag
  | .rdIrqmask, _ => .vicRdIrqmask
  | .rdSprmisc, i => .vicRdSprmisc i
  | .rdColl, i => .vicRdColl i
  | .rdBorder, _ => .vicRdBorder
  | .rdBg, i => .vicRdBg i
  | .rdSprcol, i => .vicRdSprcol i
  | .rdUnused, i => .vicRdUnused i
  | .wrSprpos, i => .vicWrSprpos i
  | .wrCr1, _ => .vicWrCr1
  | .wrRaster, _ => .vicWrRaster
  | .wrLp, i => .vicWrLp i
  | .wrSpren, _ => .vicWrSpren
  | .wrCr2, _ => .vicWrCr2
  | .wrSpryex, _ => .vicWrSpryex
  | .wrMemptr, _ => .vicWrMemptr
  | .wrIrqflag, _ => .vicWrIrqflag
  | .wrIrqmask, _ => .vicWrIrqmask
  | .wrSprmisc, i => .vicWrSprmisc i
  | .wrColl, i => .vicWrColl i
  | .wrBorder, _ => .vicWrBorder
  | .wrBg, i => .vicWrBg i
  | .wrSprcol, i => .vicWrSprcol i
  | .wrUnused, i => .vicWrUnused i

/-- The operation of an EVENT row. -/
def EventOp.instr : EventOp → Instr
  | .clk => .clk
  | .reset => .reset

/-- The decoder of one word: the row it selects, with its operand fields pulled out (30_encoding.md R141, R155-R157). -/
def decodeWord : CodeWord → Except DecodeError Instr
  | .bus w =>
    match lookupRow busRows w with
    | some op => .ok (op.instr (busMode w) (busAddr w))
    | none => .error (.busGap w)
  | .cia w =>
    match lookupRow ciaRows w with
    | some op => .ok (op.instr (ciaInst w))
    | none => .error (.ciaGap w)
  | .vic w =>
    match lookupRow vicRows w with
    | some op => .ok (op.instr (vicIndex w))
    | none => .error (.vicGap w)
  | .event w =>
    match lookupRow eventRows w with
    | some op => .ok op.instr
    | none => .error (.eventGap w)

/-- The format of a word. -/
def CodeWord.format : CodeWord → Format
  | .bus _ => .bus
  | .cia _ => .cia
  | .vic _ => .vic
  | .event _ => .event

/-- A word laid out in whole bytes, least significant byte first (DESIGN CHOICE, log 11: the core stores no decode word). -/
def CodeWord.bytes : CodeWord → List Byte
  | .bus w => [w.extractLsb' 0 8, w.extractLsb' 8 8, (w.extractLsb' 16 4).setWidth 8]
  | .cia w => [w.setWidth 8]
  | .vic w => [w.setWidth 8]
  | .event w => [w.setWidth 8]

/-- The decoder on bytes, total: the operation and the bytes after its word, or why there is none. -/
def decodeBytes : Format → List Byte → Except DecodeError (Instr × List Byte)
  | .bus, b0 :: b1 :: b2 :: rest =>
    if b2.toNat < 16 then (decodeWord (.bus (b2.setWidth 4 ++ (b1 ++ b0)))).map (·, rest)
    else .error (.tooWide .bus)
  | .bus, _ => .error (.truncated .bus)
  | .cia, b :: rest =>
    if b.toNat < 64 then (decodeWord (.cia (b.setWidth 6))).map (·, rest) else .error (.tooWide .cia)
  | .cia, [] => .error (.truncated .cia)
  | .vic, b :: rest =>
    if b.toNat < 128 then (decodeWord (.vic (b.setWidth 7))).map (·, rest) else .error (.tooWide .vic)
  | .vic, [] => .error (.truncated .vic)
  | .event, b :: rest =>
    if b.toNat < 2 then (decodeWord (.event (b.setWidth 1))).map (·, rest) else .error (.tooWide .event)
  | .event, [] => .error (.truncated .event)

/-- The encoder, written from 30_encoding.md R140, R143, R144, R145 and the register maps R155, R156. -/
def encode : Instr → CodeWord
  | .busRdRam m a => .bus (busWord true m a)
  | .busRdVic m a => .bus (busWord true m a)
  | .busRdSid m a => .bus (busWord true m a)
  | .busRdColor m a => .bus (busWord true m a)
  | .busRdCia1 m a => .bus (busWord true m a)
  | .busRdCia2 m a => .bus (busWord true m a)
  | .busRdIoexp m a => .bus (busWord true m a)
  | .busRdChar m a => .bus (busWord true m a)
  | .busRdBasic m a => .bus (busWord true m a)
  | .busRdKernal m a => .bus (busWord true m a)
  | .busWrRam m a => .bus (busWord false m a)
  | .busWrVic m a => .bus (busWord false m a)
  | .busWrSid m a => .bus (busWord false m a)
  | .busWrColor m a => .bus (busWord false m a)
  | .busWrCia1 m a => .bus (busWord false m a)
  | .busWrCia2 m a => .bus (busWord false m a)
  | .busWrIoexp m a => .bus (busWord false m a)
  | .cia1RdPra => .cia (ciaWord .cia1 true 0x0#4)
  | .cia2RdPra => .cia (ciaWord .cia2 true 0x0#4)
  | .cia1RdPrb => .cia (ciaWord .cia1 true 0x1#4)
  | .cia2RdPrb => .cia (ciaWord .cia2 true 0x1#4)
  | .ciaRdDdra k => .cia (ciaWord k true 0x2#4)
  | .ciaRdDdrb k => .cia (ciaWord k true 0x3#4)
  | .ciaRdTalo k => .cia (ciaWord k true 0x4#4)
  | .ciaRdTahi k => .cia (ciaWord k true 0x5#4)
  | .ciaRdTblo k => .cia (ciaWord k true 0x6#4)
  | .ciaRdTbhi k => .cia (ciaWord k true 0x7#4)
  | .ciaRdTod10 k => .cia (ciaWord k true 0x8#4)
  | .ciaRdTodsec k => .cia (ciaWord k true 0x9#4)
  | .ciaRdTodmin k => .cia (ciaWord k true 0xA#4)
  | .ciaRdTodhr k => .cia (ciaWord k true 0xB#4)
  | .ciaRdSdr k => .cia (ciaWord k true 0xC#4)
  | .ciaRdIcr k => .cia (ciaWord k true 0xD#4)
  | .ciaRdCra k => .cia (ciaWord k true 0xE#4)
  | .ciaRdCrb k => .cia (ciaWord k true 0xF#4)
  | .ciaWrPra k => .cia (ciaWord k false 0x0#4)
  | .ciaWrPrb k => .cia (ciaWord k false 0x1#4)
  | .ciaWrDdra k => .cia (ciaWord k false 0x2#4)
  | .ciaWrDdrb k => .cia (ciaWord k false 0x3#4)
  | .ciaWrTalo k => .cia (ciaWord k false 0x4#4)
  | .ciaWrTahi k => .cia (ciaWord k false 0x5#4)
  | .ciaWrTblo k => .cia (ciaWord k false 0x6#4)
  | .ciaWrTbhi k => .cia (ciaWord k false 0x7#4)
  | .ciaWrTod10 k => .cia (ciaWord k false 0x8#4)
  | .ciaWrTodsec k => .cia (ciaWord k false 0x9#4)
  | .ciaWrTodmin k => .cia (ciaWord k false 0xA#4)
  | .ciaWrTodhr k => .cia (ciaWord k false 0xB#4)
  | .ciaWrSdr k => .cia (ciaWord k false 0xC#4)
  | .ciaWrIcr k => .cia (ciaWord k false 0xD#4)
  | .ciaWrCra k => .cia (ciaWord k false 0xE#4)
  | .ciaWrCrb k => .cia (ciaWord k false 0xF#4)
  | .vicRdSprpos i => .vic (vicWord true i)
  | .vicRdCr1 => .vic (vicWord true 0x11#6)
  | .vicRdRaster => .vic (vicWord true 0x12#6)
  | .vicRdLp i => .vic (vicWord true i)
  | .vicRdSpren => .vic (vicWord true 0x15#6)
  | .vicRdCr2 => .vic (vicWord true 0x16#6)
  | .vicRdSpryex => .vic (vicWord true 0x17#6)
  | .vicRdMemptr => .vic (vicWord true 0x18#6)
  | .vicRdIrqflag => .vic (vicWord true 0x19#6)
  | .vicRdIrqmask => .vic (vicWord true 0x1A#6)
  | .vicRdSprmisc i => .vic (vicWord true i)
  | .vicRdColl i => .vic (vicWord true i)
  | .vicRdBorder => .vic (vicWord true 0x20#6)
  | .vicRdBg i => .vic (vicWord true i)
  | .vicRdSprcol i => .vic (vicWord true i)
  | .vicRdUnused i => .vic (vicWord true i)
  | .vicWrSprpos i => .vic (vicWord false i)
  | .vicWrCr1 => .vic (vicWord false 0x11#6)
  | .vicWrRaster => .vic (vicWord false 0x12#6)
  | .vicWrLp i => .vic (vicWord false i)
  | .vicWrSpren => .vic (vicWord false 0x15#6)
  | .vicWrCr2 => .vic (vicWord false 0x16#6)
  | .vicWrSpryex => .vic (vicWord false 0x17#6)
  | .vicWrMemptr => .vic (vicWord false 0x18#6)
  | .vicWrIrqflag => .vic (vicWord false 0x19#6)
  | .vicWrIrqmask => .vic (vicWord false 0x1A#6)
  | .vicWrSprmisc i => .vic (vicWord false i)
  | .vicWrColl i => .vic (vicWord false i)
  | .vicWrBorder => .vic (vicWord false 0x20#6)
  | .vicWrBg i => .vic (vicWord false i)
  | .vicWrSprcol i => .vic (vicWord false i)
  | .vicWrUnused i => .vic (vicWord false i)
  | .clk => .event 0#1
  | .reset => .event 1#1

/-- Whether some row's `match` value is w. -/
def isRowValue {n : Nat} {α : Type} (rows : List (Row n α)) (w : Nat) : Bool := rows.any (fun r => r.val.toNat == w)

/-- Which decode word a ONE-BYTE table word is. The table gives a row no format tag, so a byte can be an EVENT code, a CIA
word and a VIC word at once: it is read in the narrowest format in which it is a row's own `match` value, and else in
the narrowest format that holds it (DESIGN CHOICE, log 10: the machine itself always knows the format). -/
def byteCode (w : Nat) : Option CodeWord :=
  if isRowValue eventRows w then some (.event (BitVec.ofNat 1 w))
  else if isRowValue ciaRows w then some (.cia (BitVec.ofNat 6 w))
  else if isRowValue vicRows w then some (.vic (BitVec.ofNat 7 w))
  else if w < 64 then some (.cia (BitVec.ofNat 6 w))
  else if w < 128 then some (.vic (BitVec.ofNat 7 w))
  else none

/-- Which decode word the opcode table's number w of `nbits` bits is: by width where the width tells the format (BUS more
than 8 bits, VIC 7, CIA 6 or 5, EVENT 1), else by `byteCode` (log 10). -/
def tableCode (nbits w : Nat) : Option CodeWord :=
  if 8 < nbits then (if w < 2 ^ 20 then some (.bus (BitVec.ofNat 20 w)) else none)
  else if nbits = 7 then (if w < 128 then some (.vic (BitVec.ofNat 7 w)) else none)
  else if nbits = 6 || nbits = 5 then (if w < 64 then some (.cia (BitVec.ofNat 6 w)) else none)
  else if nbits = 1 then (if w < 2 then some (.event (BitVec.ofNat 1 w)) else none)
  else byteCode w

/-- The operation the decoder reads from the opcode table's number w of `nbits` bits. -/
def decodeTableWord (nbits w : Nat) : Option Instr :=
  match tableCode nbits w with
  | none => none
  | some c =>
    match decodeBytes c.format c.bytes with
    | .ok (i, _) => some i
    | .error _ => none

end Sys2Proof
end

