-- ==== Sys2Proof/Config.lean ====
section
/-! DEFINITION. What one construction of the core fixes (00_scope.md R13: parameters left OPEN, here constants with no body, so that
every claim holds for every admissible value; log 2, log 3), and what the host supplies: the inputs of a CLK and the
calls it makes (R11, R20; log 4). -/

namespace Sys2Proof

/-- The directions held on an attached joystick (41_cia_registers.md R192). -/
structure Joystick where
  up : Bool
  down : Bool
  left : Bool
  right : Bool
  fire : Bool
  deriving DecidableEq, Repr, Inhabited

/-- The inputs of one CLK (00_scope.md R20): the bus tuple (A, D, RW; rw true = read), the pressed keys as (row, column) pairs,
the joystick (`none`: not attached) and the SID's answer. The set of keys is held as a list: its order and repeats never
matter (41_cia_registers.md R194, log 8). -/
structure Inputs where
  a : Addr
  d : Byte
  rw : Bool
  keys : List (Byte × Byte)
  joy : Option Joystick
  sidRead : Byte
  deriving DecidableEq, Repr, Inhabited

/-- A call of the host (00_scope.md R11): one CLK with its inputs, or RESET. -/
inductive HostCall where
  | clk (inp : Inputs)
  | reset
  deriving DecidableEq, Repr, Inhabited

/-- The two idle values of the joystick port (00_scope.md R13, R15; D39). -/
inductive JoyVariant where
  | idle7F
  | idleFF
  deriving DecidableEq, Repr, Inhabited

/-- `BASIC_ROM`, 8192 bytes (R13, D43). -/
opaque Config.basicRom : BitVec 13 → Byte

/-- `KERNAL_ROM`, 8192 bytes (R13, D43). -/
opaque Config.kernalRom : BitVec 13 → Byte

/-- `CHAR_ROM`, 4096 bytes (R13, D43). -/
opaque Config.charRom : BitVec 12 → Byte

/-- `CYCLES_PER_LINE - 1`, any natural number (R13, D23). -/
opaque Config.cyclesPerLinePred : Nat

/-- `CYCLES_PER_LINE ≥ 1` (R13, D23). -/
def Config.cyclesPerLine : Nat := Config.cyclesPerLinePred + 1

/-- `TOTAL_LINES - 2`, 0 to 510 (R13, D23). -/
opaque Config.totalLinesPred : Fin 511

/-- `TOTAL_LINES`, 2 to 512 (R13, D23). -/
def Config.totalLines : Nat := Config.totalLinesPred.val + 2

/-- The free choice of `FB_FIRST_LINE` (R13, D25). -/
opaque Config.fbFirstLineChoice : Nat

/-- `FB_FIRST_LINE` with `FB_FIRST_LINE + 200 ≤ TOTAL_LINES` wherever a line can meet that, which is when TOTAL_LINES ≥ 200;
any number below (R13, D25; log 3). -/
def Config.fbFirstLine : Nat := Config.fbFirstLineChoice % (Config.totalLines - 199)

/-- Which of its two values `JOY_IDLE` has (R13, D39). -/
opaque Config.joyVariant : JoyVariant

/-- `JOY_IDLE ∈ {$7F, $FF}` (R13, D39). -/
def JoyVariant.idle : JoyVariant → Byte
  | .idle7F => 0x7F#8
  | .idleFF => 0xFF#8

/-- `JOY_IDLE` of this construction. -/
def Config.joyIdle : Byte := Config.joyVariant.idle

/-- `RESET_HOLD ≥ 0` (R13, D11). -/
opaque Config.resetHold : Nat

/-- `RESET_SETTLE ≥ 0` (R13, D11). -/
opaque Config.resetSettle : Nat

/-- FREE VALUE: the n-th host call that nothing in State has fixed; the event sequence and every input are any value
(93_implementation_defined.md U8, U12, U13; log 4). -/
opaque Config.hostCall : Nat → HostCall

end Sys2Proof
end

