-- ==== Sys2Proof/Machine/State.lean ====
section
/-! DEFINITION. The state of the CORE: the record S of 10_state.md R42-R84, with the inputs and outputs of a CLK (00_scope.md R20) and
the host's coming calls held as plain data; and the state right after reset (R86). -/

namespace Sys2Proof.Machine

/-- A byte memory: the listed (address, byte) pairs, addresses strictly rising, no listed byte equal to what an unlisted
address reads as (log 1, log 13). -/
abbrev Memory := List Host.Cell

/-- A register file of 2^n bytes. -/
abbrev RegFile (n : Nat) := Vector Byte (2 ^ n)

/-- A register file of $00 bytes (10_state.md R86). -/
def RegFile.zero (n : Nat) : RegFile n := Vector.replicate (2 ^ n) 0x00#8

/-- One CIA: its read view r and its write view w, 16 bytes each (10_state.md R45). -/
structure Cia where
  r : RegFile 4
  w : RegFile 4
  deriving DecidableEq, Repr

/-- The VIC: its read-visible set r, its write-latch set w (10_state.md R57), the cycle in the line (R80) and the scanline (R81). -/
structure Vic where
  r : RegFile 6
  w : RegFile 6
  cycle : Nat
  line : BitVec 9
  deriving DecidableEq, Repr

/-- The four visibility flags (10_state.md R44). -/
structure Visibility where
  basic : Bool
  kernal : Bool
  io : Bool
  char : Bool
  deriving DecidableEq, Repr

/-- The outputs of one CLK (00_scope.md R20), and the calls it makes on the CPU collaborator: `SignalIRQ(irq)` when irq differs
from the previous CLK's (60_exceptions.md R402), `SignalNMI(true)` then `SignalNMI(false)` for a pulse (R404). -/
structure Outputs where
  dout : Option Byte
  irq : Bool
  nmiEdge : Bool
  res : Bool
  sidWr : Option (Addr × Byte)
  signalIrq : Option Bool
  signalNmi : List Bool
  deriving DecidableEq, Repr

/-- Why the machine stops with a fault. -/
inductive Fault where
  /-- `DecodeGap(W)`, the core's one fault, cause code 1 (60_exceptions.md R400): raised by Route when the BUS word W selects no row.
  No word does (20_memory.md R112). Safe: the machine stops. -/
  | decodeGap (w : BitVec 20)
  deriving DecidableEq, Repr

/-- Why an operation has no meaning here. -/
inductive Refusal where
  /-- Raised by a refused arm of `exec` for an operation that has no meaning yet; no arm is refused. Safe. -/
  | notModelled (mnemonic : String)
  /-- Raised by CLK before the first RESET (70_reset_and_hazards.md R451, D55: "A CLK before the first RESET is refused by the
  model"). Safe. -/
  | clkBeforeReset
  /-- Raised by a register access whose select word is no row of its table (93_implementation_defined.md U1). No word is such a
  word, since the decode passes `A & $0F` and `A & $3F` (30_encoding.md R147, R158). Safe. -/
  | noRegister
  /-- Raised by a step whose host call has no event code. Both codes are rows (30_encoding.md R157), so no call is such. Safe. -/
  | noEvent
  deriving DecidableEq, Repr

/-- The state. The fields up to `rstLeft` are the spec's (10_state.md R42-R83); the others are the model's own (log 4 to 7). -/
structure State where
  /-- `ram[0..$FFFF]` (R42). -/
  ram : Memory
  /-- The visibility flags (R44). -/
  vis : Visibility
  /-- CIA1 (R45-R56). -/
  cia1 : Cia
  /-- CIA2 (R45-R56). -/
  cia2 : Cia
  /-- The VIC (R57-R68, R80, R81). -/
  vic : Vic
  /-- `fb[0..31999]` (R82). -/
  fb : Memory
  /-- `rst_left` (R83). -/
  rstLeft : Nat
  /-- The inputs of the CLK in progress (00_scope.md R20, log 5). -/
  inp : Inputs
  /-- The outputs of the latest CLK (R20, log 6). -/
  out : Outputs
  /-- `irq` of the previous CLK (60_exceptions.md R402, log 6). -/
  irqSeen : Bool
  /-- Whether the first RESET has come (70_reset_and_hazards.md R451, log 7). -/
  everReset : Bool
  /-- The host's coming calls, the next one first (00_scope.md R11, log 4). -/
  calls : List HostCall
  /-- How many host calls have been drawn free (log 4). -/
  drawn : Nat
  deriving DecidableEq, Repr

/-- What an operation answers. -/
abbrev Result := Host.Outcome State Fault Refusal

/-- A CIA after RESET: both views all $00 (10_state.md R86). -/
def Cia.zero : Cia := { r := RegFile.zero 4, w := RegFile.zero 4 }

/-- The VIC after RESET: both sets all $00, cycle 0, scanline 0 (10_state.md R86). -/
def Vic.zero : Vic := { r := RegFile.zero 6, w := RegFile.zero 6, cycle := 0, line := 0#9 }

/-- The visibility flags after RESET: all false (10_state.md R86). -/
def Visibility.off : Visibility := { basic := false, kernal := false, io := false, char := false }

/-- Outputs in which nothing is driven, asserted or called (log 6). -/
def Outputs.idle : Outputs :=
  { dout := none, irq := false, nmiEdge := false, res := false, sidWr := none, signalIrq := none, signalNmi := [] }

/-- Inputs before any CLK: a read of $0000, no keys, no joystick, `sid_read` $00 (DESIGN CHOICE, log 5). -/
def Inputs.initial : Inputs := { a := 0x0000#16, d := 0x00#8, rw := true, keys := [], joy := none, sidRead := 0x00#8 }

/-- The construction of the core with `RAM_INIT` (70_reset_and_hazards.md R451): before the first RESET no state but RAM is defined,
and no CLK is accepted, so the other fields hold no claim (log 7). -/
def State.construct (ramInit : Memory) : State :=
  { ram := ramInit
    vis := Visibility.off
    cia1 := Cia.zero
    cia2 := Cia.zero
    vic := Vic.zero
    fb := []
    rstLeft := 0
    inp := Inputs.initial
    out := Outputs.idle
    irqSeen := false
    everReset := false
    calls := []
    drawn := 0 }

/-- The machine right after reset: RESET applied to a construction (10_state.md R86, D55), with RAM all $00 (log 1). -/
def State.reset : State :=
  { ram := []
    vis := Visibility.off
    cia1 := Cia.zero
    cia2 := Cia.zero
    vic := Vic.zero
    fb := []
    rstLeft := Config.resetHold + Config.resetSettle
    inp := Inputs.initial
    out := Outputs.idle
    irqSeen := false
    everReset := true
    calls := []
    drawn := 0 }

end Sys2Proof.Machine
end

