-- ==== Sys2Proof/Machine/Ops.lean ====
section
/-! DEFINITION. The named operations over memory, register files, the bus outputs and the host's calls. The core takes no exception of
its own: entry and return are the CPU's (60_exceptions.md R407, R408), so the one operation of that kind is the raise of its only
fault (R400). -/

namespace Sys2Proof.Machine

/-! ### Memory -/

/-- What an unlisted address reads as: $00. For `fb` this is its reset value (10_state.md R82); for RAM it is the model's
`RAM_INIT` (DESIGN CHOICE, log 1). -/
def unlistedByte : Byte := 0x00#8

/-- `RamRead(a)`: the byte at address a, with no decode (00_scope.md R19). -/
def Memory.read : Memory → Nat → Byte
  | [], _ => unlistedByte
  | (b, x) :: m, a => if a = b then x else Memory.read m a

/-- `RamWrite(a, v)`, keeping the canonical form (00_scope.md R19, log 1). -/
def Memory.write : Memory → Nat → Byte → Memory
  | [], a, v => if v = unlistedByte then [] else [(a, v)]
  | (b, x) :: m, a, v =>
    if a < b then (if v = unlistedByte then (b, x) :: m else (a, v) :: (b, x) :: m)
    else if a = b then (if v = unlistedByte then m else (a, v) :: m)
    else (b, x) :: Memory.write m a v

/-- The bytes of a list written at rising addresses from a. -/
def Memory.writeBlock : Memory → Nat → List Byte → Memory
  | m, _, [] => m
  | m, a, v :: vs => Memory.writeBlock (m.write a v) (a + 1) vs

/-- The canonical form over addresses lo to hi - 1. -/
def Memory.wfFrom : Nat → Nat → Memory → Bool
  | _, _, [] => true
  | lo, hi, (a, v) :: m => decide (lo ≤ a) && decide (a < hi) && decide (v ≠ unlistedByte) && Memory.wfFrom (a + 1) hi m

/-- The canonical form of a memory of `size` bytes. -/
def Memory.wf (size : Nat) (m : Memory) : Bool := Memory.wfFrom 0 size m

/-- The size of RAM (00_scope.md R12). -/
def ramSize : Nat := 65536

/-- The size of the framebuffer (10_state.md R82). -/
def fbSize : Nat := 32000

/-- Pixel (x, y) of the framebuffer: the high nibble of its byte when x is even, the low nibble when odd (10_state.md R82). -/
def pixel (s : State) (x y : Nat) : Colour :=
  if x % 2 = 0 then (s.fb.read (y * 160 + x / 2)).extractLsb' 4 4 else (s.fb.read (y * 160 + x / 2)).extractLsb' 0 4

/-! ### Register files -/

/-- Register i of a file. -/
def RegFile.read {n : Nat} (f : RegFile n) (i : BitVec n) : Byte := f[i.toNat]'i.isLt

/-- A file with register i set to v. -/
def RegFile.write {n : Nat} (f : RegFile n) (i : BitVec n) (v : Byte) : RegFile n := f.set i.toNat v i.isLt

/-- CIA k. -/
def State.cia (s : State) : CiaId → Cia
  | .cia1 => s.cia1
  | .cia2 => s.cia2

/-- The state with CIA k replaced. -/
def State.setCia (s : State) (k : CiaId) (c : Cia) : State :=
  match k with
  | .cia1 => { s with cia1 := c }
  | .cia2 => { s with cia2 := c }

/-- A CIA whose register i reads v; its write view is unchanged. -/
def Cia.setRead (c : Cia) (i : BitVec 4) (v : Byte) : Cia := { c with r := c.r.write i v }

/-- A CIA whose latch i holds v; its read view is unchanged. -/
def Cia.setLatch (c : Cia) (i : BitVec 4) (v : Byte) : Cia := { c with w := c.w.write i v }

/-- A plain store: v in both views (41_cia_registers.md R215). -/
def Cia.storeBoth (c : Cia) (i : BitVec 4) (v : Byte) : Cia := { r := c.r.write i v, w := c.w.write i v }

/-- The state with VIC register i of the read-visible set holding v. -/
def setVicReg (i : BitVec 6) (v : Byte) (s : State) : State := { s with vic := { s.vic with r := s.vic.r.write i v } }

/-- The state with VIC register i of the write-latch set holding v. -/
def setVicLatch (i : BitVec 6) (v : Byte) (s : State) : State := { s with vic := { s.vic with w := s.vic.w.write i v } }

/-! ### The bus -/

/-- The start of a routed access: no byte driven, no SID write (44_bus_arbiter.md R353: what a row does not give is `none`). -/
def openCycle (s : State) : State := { s with out := { s.out with dout := none, sidWr := none } }

/-- The read result v placed in `dout` (30_encoding.md R146). -/
def answer (v : Byte) (s : State) : State := { s with out := { s.out with dout := some v } }

/-- The data byte D of the bus cycle stored at RAM address a (20_memory.md R111). -/
def storeRam (a : Addr) (s : State) : State := { s with ram := s.ram.write a.toNat s.inp.d }

/-- The write (A, D) delivered to the external SID (44_bus_arbiter.md R374). -/
def deliverSid (a : Addr) (s : State) : State := { s with out := { s.out with sidWr := some (a, s.inp.d) } }

/-- `raise DecodeGap(W)` (60_exceptions.md R400). -/
def raiseDecodeGap (w : BitVec 20) : Result := .fault (.decodeGap w)

/-- The cause code of a fault: 1, the only one (60_exceptions.md R400). -/
def Fault.causeCode : Fault → Nat
  | .decodeGap _ => 1

/-! ### The host's calls -/

/-- The next call of the host: the head of `calls`, or a free draw when nothing is listed (log 4). -/
def nextCall (s : State) : HostCall :=
  match s.calls with
  | c :: _ => c
  | [] => Config.hostCall s.drawn

/-- The state with the next call taken off. -/
def takeCall (s : State) : State :=
  match s.calls with
  | _ :: cs => { s with calls := cs }
  | [] => { s with drawn := s.drawn + 1 }

/-- The event code of a call (30_encoding.md R145). -/
def eventCode : HostCall → BitVec 1
  | .clk _ => 0#1
  | .reset => 1#1

/-- The inputs of a CLK call presented to the core; RESET has none. -/
def latchInputs (c : HostCall) (s : State) : State :=
  match c with
  | .clk inp => { s with inp := inp }
  | .reset => s

/-- The call c put first among the coming calls. -/
def pushCall (c : HostCall) (s : State) : State := { s with calls := c :: s.calls }

/-! ### Placing an operation where the next step runs it (log 11) -/

/-- A normal CLK next: a RESET has come, its handshake is over, and the next call is a CLK with bus tuple (a, rw). -/
def placeCycle (rw : Bool) (a : Addr) (s : State) : State :=
  { s with
    everReset := true
    rstLeft := 0
    calls := .clk { s.inp with a := a, rw := rw } :: s.calls }

/-- The bank mode set in the mode port, its bits 7:3 kept (20_memory.md R103). -/
def setMode (mode : BitVec 3) (s : State) : State :=
  { s with ram := s.ram.write 1 ((s.ram.read 1).extractLsb' 3 5 ++ mode) }

/-- A decode word placed so that the very next step runs its operation. -/
def placeCode (c : CodeWord) (s : State) : State :=
  match c with
  | .event e => if e = 0#1 then placeCycle s.inp.rw s.inp.a s else pushCall .reset s
  | .bus w => placeCycle (busRead w) (busAddr w) (setMode (busMode w) s)
  | .cia w =>
    placeCycle (w.getLsbD 4) ((if w.getLsbD 5 then 0xDD0#12 else 0xDC0#12) ++ w.extractLsb' 0 4) (setMode 7#3 s)
  | .vic w => placeCycle (w.getLsbD 6) (0x340#10 ++ vicIndex w) (setMode 7#3 s)

end Sys2Proof.Machine
end

