-- ==== Sys2Proof/Machine/Operands.lean ====
section
/-! DEFINITION. The operand forms: fields of the bus tuple, of the timer register pairs, of the VIC pointers, and the live inputs of
CIA1's ports (30_encoding.md R146-R152, 40_timer_unit.md R171, 41_cia_registers.md R192-R195). -/

namespace Sys2Proof.Machine

/-! ### The bus cycle -/

/-- `mode = ram[$0001] & 7` (20_memory.md R103, 10_state.md R44). -/
def modeOf (s : State) : BitVec 3 := (s.ram.read 1).extractLsb' 0 3

/-- The decode word of the CLK in progress (30_encoding.md R140). -/
def cycleWord (s : State) : BitVec 20 := busWord s.inp.rw (modeOf s) s.inp.a

/-- The CIA register index `A & $0F` (30_encoding.md R147). -/
def ciaIndex (a : Addr) : BitVec 4 := a.extractLsb' 0 4

/-- The VIC register index `A & $3F` (30_encoding.md R147). -/
def vicIndexOf (a : Addr) : BitVec 6 := a.extractLsb' 0 6

/-- The offset in an 8 KB ROM: `A - $A000` in $A000-$BFFF, `A - $E000` in $E000-$FFFF, the low 13 bits of A (20_memory.md R109). -/
def romOffset13 (a : Addr) : BitVec 13 := a.extractLsb' 0 13

/-- The offset in the 4 KB character ROM: `A - $D000` in $D000-$DFFF, the low 12 bits of A (20_memory.md R109). -/
def romOffset12 (a : Addr) : BitVec 12 := a.extractLsb' 0 12

/-! ### Timers -/

/-- The two timers of a CIA (40_timer_unit.md R171). -/
inductive TimerId where
  | a
  | b
  deriving DecidableEq, Repr

/-- The index of the low byte (R171). -/
def timerLo : TimerId → BitVec 4
  | .a => 0x4#4
  | .b => 0x6#4

/-- The index of the high byte (R171). -/
def timerHi : TimerId → BitVec 4
  | .a => 0x5#4
  | .b => 0x7#4

/-- The index of the control register (R171). -/
def timerCr : TimerId → BitVec 4
  | .a => 0xE#4
  | .b => 0xF#4

/-- The flag and mask bit (R171). -/
def timerBit : TimerId → Nat
  | .a => 0
  | .b => 1

/-- The live counter: the read-view pair (10_state.md R49, R50). -/
def timerCounter (x : TimerId) (c : Cia) : BitVec 16 := pair (c.r.read (timerLo x)) (c.r.read (timerHi x))

/-- The latch: the write-view pair (10_state.md R49, R50). -/
def timerLatch (x : TimerId) (c : Cia) : BitVec 16 := pair (c.w.read (timerLo x)) (c.w.read (timerHi x))

/-- Whether the timer runs: START in the read view (10_state.md R56). -/
def timerRunning (x : TimerId) (c : Cia) : Bool := (c.r.read (timerCr x)).getLsbD 0

/-- Whether the timer is in single-shot mode: RUNMODE in the read view (10_state.md R54, R55). -/
def timerSingleShot (x : TimerId) (c : Cia) : Bool := (c.r.read (timerCr x)).getLsbD 3

/-- The live counter set to v, low byte and high byte. -/
def setTimerCounter (x : TimerId) (v : BitVec 16) (c : Cia) : Cia :=
  (c.setRead (timerLo x) (v.extractLsb' 0 8)).setRead (timerHi x) (v.extractLsb' 8 8)

/-- Both latch bytes copied into the live counter (40_timer_unit.md R175; the strobe of 41_cia_registers.md R230). -/
def loadTimer (x : TimerId) (c : Cia) : Cia :=
  (c.setRead (timerLo x) (c.w.read (timerLo x))).setRead (timerHi x) (c.w.read (timerHi x))

/-! ### The live inputs of CIA1 -/

/-- The held directions as bits: up 0, down 1, left 2, right 3, fire 4 (41_cia_registers.md R192, D39). -/
def joyBits (j : Joystick) : Byte :=
  (if j.up then 0x01#8 else 0#8) ||| (if j.down then 0x02#8 else 0#8) ||| (if j.left then 0x04#8 else 0#8)
    ||| (if j.right then 0x08#8 else 0#8) ||| (if j.fire then 0x10#8 else 0#8)

/-- `JoyValue(joy)` (41_cia_registers.md R192). -/
def joyValue (idle : Byte) : Option Joystick → Byte
  | none => idle
  | some j => idle &&& ~~~(joyBits j)

/-- The AND of the column bytes of the keys that match the select byte; $FF when none does (41_cia_registers.md R194). -/
def keyColumns (sel : Byte) : List (Byte × Byte) → Byte
  | [] => 0xFF#8
  | (row, col) :: ks => if row ||| sel = 0xFF#8 then keyColumns sel ks else col &&& keyColumns sel ks

/-- `KeyScan(keys, sel)`, with the busy probe (41_cia_registers.md R194, R195). -/
def keyScan (keys : List (Byte × Byte)) (sel : Byte) : Byte :=
  if sel = 0x00#8 && !keys.isEmpty then 0x20#8 else keyColumns sel keys

/-! ### The VIC -/

/-- The raster-compare target `RC` (10_state.md R61). -/
def rasterTarget (v : Vic) : BitVec 9 := BitVec.ofBool ((v.w.read 0x11#6).getLsbD 7) ++ v.w.read 0x12#6

/-- `bank_base = (3 - cia[2].r[$00][1:0]) * $4000` (43_vic_raster_render.md R310). -/
def bankBase (cia2 : Cia) : Nat := (3 - ((cia2.r.read 0x0#4).extractLsb' 0 2).toNat) * 0x4000

/-- `matrix_off = vic.r[$18][7:4] * $400` (R311). -/
def matrixOff (r : RegFile 6) : Nat := ((r.read 0x18#6).extractLsb' 4 4).toNat * 0x400

/-- `char_off = vic.r[$18][3:1] * $800` (R312). -/
def charOff (r : RegFile 6) : Nat := ((r.read 0x18#6).extractLsb' 1 3).toNat * 0x800

/-- `bitmap_off = vic.r[$18][3] * $2000` (R313). -/
def bitmapOff (r : RegFile 6) : Nat := ((r.read 0x18#6).extractLsb' 3 1).toNat * 0x2000

/-- DEN, display enable (10_state.md R59). -/
def denBit (r : RegFile 6) : Bool := (r.read 0x11#6).getLsbD 4

/-- The low nibble of a byte: a colour (43_vic_raster_render.md R321, D35). -/
def lowNibble (v : Byte) : Colour := v.extractLsb' 0 4

/-- The high nibble of a byte. -/
def highNibble (v : Byte) : Colour := v.extractLsb' 4 4

/-- Background colour j, `vic.r[$21 + j] & $F` (10_state.md R67). -/
def background (r : RegFile 6) (j : BitVec 2) : Colour := lowNibble (r.read (0x21#6 + j.setWidth 6))

end Sys2Proof.Machine
end

