-- ==== Sys2Proof/Machine/Flags.lean ====
section
/-! DEFINITION. Every flag computation: the CIA interrupt flags and mask, the VIC interrupt flag, the raster match, the IRQ and NMI
outputs, the visibility flags (60_exceptions.md R401-R406, 20_memory.md R104). -/

namespace Sys2Proof.Machine

/-- The ICR flags with source b and the aggregate bit 7 set (40_timer_unit.md R170). -/
def icrRaise (b : Nat) (flags : Byte) : Byte := flags ||| ((0x01#8 <<< b) ||| 0x80#8)

/-- The ICR mask after a write of d: bit 7 set ORs bits 0-4 in, bit 7 clear takes them out (41_cia_registers.md R229). -/
def icrMaskWrite (d mask : Byte) : Byte :=
  if d.getLsbD 7 then mask ||| (d &&& 0x1F#8) else mask &&& ~~~(d &&& 0x1F#8)

/-- The VIC interrupt flag after a write of d: write one to clear, bit 7 aggregates what remains (42_vic_registers.md R288). -/
def vicFlagWrite (d flag : Byte) : Byte :=
  let f := flag &&& 0x0F#8 &&& ~~~(d &&& 0x0F#8)
  f ||| (if f = 0x00#8 then 0x00#8 else 0x80#8)

/-- The VIC interrupt flag with the raster bit and the aggregate set (43_vic_raster_render.md R302). -/
def vicFlagRaise (flag : Byte) : Byte := flag ||| 0x81#8

/-- The raster interrupt condition: the scanline is the target and the mask bit is set (43_vic_raster_render.md R302). -/
def rasterMatch (v : Vic) : Bool := v.line == rasterTarget v && (v.r.read 0x1A#6).getLsbD 0

/-- `Irq()`: CIA1's flag bit 7 or the VIC's (60_exceptions.md R402). -/
def irqLine (s : State) : Bool := (s.cia1.r.read 0xD#4).getLsbD 7 || (s.vic.r.read 0x19#6).getLsbD 7

/-- The four visibility flags of a mode (20_memory.md R104). -/
def visibilityOf (mode : BitVec 3) : Visibility :=
  let l := mode.getLsbD 0
  let h := mode.getLsbD 1
  let c := mode.getLsbD 2
  { basic := l && h, kernal := h, io := c && (l || h), char := !c && (l || h) }

/-- RecomputeVisibility (44_bus_arbiter.md R352). -/
def recomputeVisibility (s : State) : State := { s with vis := visibilityOf (modeOf s) }

/-- The end of a CLK: `irq = Irq()` evaluated now, the NMI pulse and RES as given, and the calls they make on the CPU
(44_bus_arbiter.md R350, R354; 60_exceptions.md R402, R404). -/
def emit (nmi res : Bool) (s : State) : State :=
  { s with
    out :=
      { s.out with
        irq := irqLine s
        nmiEdge := nmi
        res := res
        signalIrq := if irqLine s == s.irqSeen then none else some (irqLine s)
        signalNmi := if nmi then [true, false] else [] }
    irqSeen := irqLine s }

end Sys2Proof.Machine
end

