-- ==== Sys2Proof/Machine/Timer.lean ====
section
/-! DEFINITION. The TimerUnit (40_timer_unit.md) and the CIA clock (41_cia_registers.md R240). -/

namespace Sys2Proof.Machine

/-- Whether source X is unmasked (40_timer_unit.md R170, 10_state.md R53). -/
def timerUnmasked (x : TimerId) (c : Cia) : Bool := (c.w.read 0xD#4).getLsbD (timerBit x)

/-- The flags of an underflow: set only if the source is unmasked (40_timer_unit.md R170, R173). -/
def underflowFlags (x : TimerId) (c : Cia) : Cia :=
  if timerUnmasked x c then c.setRead 0xD#4 (icrRaise (timerBit x) (c.r.read 0xD#4)) else c

/-- A timer stopped: START cleared in both views of its control register (40_timer_unit.md R174). -/
def stopTimer (x : TimerId) (c : Cia) : Cia :=
  (c.setRead (timerCr x) (c.r.read (timerCr x) &&& 0xFE#8)).setLatch (timerCr x) (c.w.read (timerCr x) &&& 0xFE#8)

/-- An underflow: the flags, then the stop of a single-shot timer or the reload of a continuous one (40_timer_unit.md R170). -/
def underflow (x : TimerId) (c : Cia) : Cia :=
  if timerSingleShot x c then stopTimer x (underflowFlags x c) else loadTimer x (underflowFlags x c)

/-- The live counter decremented modulo 65536 (40_timer_unit.md R170, R176). -/
def countDown (x : TimerId) (c : Cia) : Cia := setTimerCounter x (timerCounter x c - 1#16) c

/-- Whether this tick brings a running timer's counter to zero: an underflow (40_timer_unit.md R170, R176). -/
def reachesZero (x : TimerId) (c : Cia) : Bool := timerRunning x c && timerCounter x c - 1#16 == 0#16

/-- TIMER_TICK(k, X), the CIA after it (40_timer_unit.md R170). -/
def timerTick (x : TimerId) (c : Cia) : Cia :=
  if timerRunning x c then (if reachesZero x c then underflow x (countDown x c) else countDown x c) else c

/-- TIMER_TICK's result `sig`: this tick signalled the CIA's interrupt output (40_timer_unit.md R170). -/
def timerSignal (x : TimerId) (c : Cia) : Bool := reachesZero x c && timerUnmasked x c

/-- CIA_CLK, the CIA after it: timer A ticks, then timer B (41_cia_registers.md R240). -/
def ciaTick (c : Cia) : Cia := timerTick .b (timerTick .a c)

/-- CIA_CLK's result: the interrupt output was signalled (41_cia_registers.md R240). -/
def ciaSignal (c : Cia) : Bool := timerSignal .a c || timerSignal .b (timerTick .a c)

/-- CIA_CLK(k) on the state. -/
def ciaClk (k : CiaId) (s : State) : State := s.setCia k (ciaTick (s.cia k))

end Sys2Proof.Machine
end

