-- ==== Sys2Proof/Machine/CiaRegs.lean ====
section
/-! DEFINITION. The CIA register operations, one meaning per row of 30_encoding.md R155 (41_cia_registers.md R190-R231). A read places its byte in
`dout`; a write stores the bus cycle's data byte D, held in `inp`. -/

namespace Sys2Proof.Machine

/-- A plain read: register i of the read view (41_cia_registers.md R190). -/
def ciaPlainRead (k : CiaId) (i : BitVec 4) (s : State) : State := answer ((s.cia k).r.read i) s

/-- A plain write: D in both views (41_cia_registers.md R215). -/
def ciaPlainWrite (k : CiaId) (i : BitVec 4) (s : State) : State := s.setCia k ((s.cia k).storeBoth i s.inp.d)

/-- A timer low-byte write: D in the latch only (41_cia_registers.md R220, R222). -/
def ciaTimerLowWrite (k : CiaId) (x : TimerId) (s : State) : State := s.setCia k ((s.cia k).setLatch (timerLo x) s.inp.d)

/-- The CIA after d is written to the high byte of timer X: d in the latch, and both latch bytes in the counter of a stopped
timer (R221, R223). -/
def timerHighStore (x : TimerId) (d : Byte) (c : Cia) : Cia :=
  if timerRunning x c then c.setLatch (timerHi x) d else loadTimer x (c.setLatch (timerHi x) d)

/-- A timer high-byte write. -/
def ciaTimerHighWrite (k : CiaId) (x : TimerId) (s : State) : State := s.setCia k (timerHighStore x s.inp.d (s.cia k))

/-- The CIA after d is written to the control register of timer X: d literally in both views, and the strobe bit 4 loads the
counter from the latch (R230, R231). -/
def controlStore (x : TimerId) (d : Byte) (c : Cia) : Cia :=
  if d.getLsbD 4 then loadTimer x (c.storeBoth (timerCr x) d) else c.storeBoth (timerCr x) d

/-- A control write. -/
def ciaControlWrite (k : CiaId) (x : TimerId) (s : State) : State := s.setCia k (controlStore x s.inp.d (s.cia k))

/-! ### Reads -/

/-- CIA1_RD_PRA: the joystick port; the stored byte is not returned (41_cia_registers.md R191). -/
def execCia1RdPra (s : State) : Result := .next (answer (joyValue Config.joyIdle s.inp.joy) s)

/-- CIA2_RD_PRA: read of port A (41_cia_registers.md R196). -/
def execCia2RdPra (s : State) : Result := .next (ciaPlainRead .cia2 0x0#4 s)

/-- CIA1_RD_PRB: the keyboard scan under the column select of port A (41_cia_registers.md R193). -/
def execCia1RdPrb (s : State) : Result := .next (answer (keyScan s.inp.keys (s.cia1.r.read 0x0#4)) s)

/-- CIA2_RD_PRB: read of port B (41_cia_registers.md R197). -/
def execCia2RdPrb (s : State) : Result := .next (ciaPlainRead .cia2 0x1#4 s)

/-- CIA_RD_DDRA: read of DDRA (41_cia_registers.md R198). -/
def execCiaRdDdra (k : CiaId) (s : State) : Result := .next (ciaPlainRead k 0x2#4 s)

/-- CIA_RD_DDRB: read of DDRB (41_cia_registers.md R199). -/
def execCiaRdDdrb (k : CiaId) (s : State) : Result := .next (ciaPlainRead k 0x3#4 s)

/-- CIA_RD_TALO: read of timer A low (41_cia_registers.md R200). -/
def execCiaRdTalo (k : CiaId) (s : State) : Result := .next (ciaPlainRead k 0x4#4 s)

/-- CIA_RD_TAHI: read of timer A high (41_cia_registers.md R201). -/
def execCiaRdTahi (k : CiaId) (s : State) : Result := .next (ciaPlainRead k 0x5#4 s)

/-- CIA_RD_TBLO: read of timer B low (41_cia_registers.md R202). -/
def execCiaRdTblo (k : CiaId) (s : State) : Result := .next (ciaPlainRead k 0x6#4 s)

/-- CIA_RD_TBHI: read of timer B high (41_cia_registers.md R203). -/
def execCiaRdTbhi (k : CiaId) (s : State) : Result := .next (ciaPlainRead k 0x7#4 s)

/-- CIA_RD_TOD10: read of TOD10 (41_cia_registers.md R204). -/
def execCiaRdTod10 (k : CiaId) (s : State) : Result := .next (ciaPlainRead k 0x8#4 s)

/-- CIA_RD_TODSEC: read of TODSEC (41_cia_registers.md R205). -/
def execCiaRdTodsec (k : CiaId) (s : State) : Result := .next (ciaPlainRead k 0x9#4 s)

/-- CIA_RD_TODMIN: read of TODMIN (41_cia_registers.md R206). -/
def execCiaRdTodmin (k : CiaId) (s : State) : Result := .next (ciaPlainRead k 0xA#4 s)

/-- CIA_RD_TODHR: read of TODHR (41_cia_registers.md R207). -/
def execCiaRdTodhr (k : CiaId) (s : State) : Result := .next (ciaPlainRead k 0xB#4 s)

/-- CIA_RD_SDR: read of SDR (41_cia_registers.md R208). -/
def execCiaRdSdr (k : CiaId) (s : State) : Result := .next (ciaPlainRead k 0xC#4 s)

/-- CIA_RD_ICR: the flags are returned, then cleared, which drops the CIA's request (R242) (41_cia_registers.md R209). -/
def execCiaRdIcr (k : CiaId) (s : State) : Result :=
  .next (answer ((s.cia k).r.read 0xD#4) (s.setCia k ((s.cia k).setRead 0xD#4 0x00#8)))

/-- CIA_RD_CRA: read of timer A control (41_cia_registers.md R210). -/
def execCiaRdCra (k : CiaId) (s : State) : Result := .next (ciaPlainRead k 0xE#4 s)

/-- CIA_RD_CRB: read of timer B control (41_cia_registers.md R211). -/
def execCiaRdCrb (k : CiaId) (s : State) : Result := .next (ciaPlainRead k 0xF#4 s)

/-! ### Writes -/

/-- CIA_WR_PRA: write of port A (41_cia_registers.md R216). -/
def execCiaWrPra (k : CiaId) (s : State) : Result := .next (ciaPlainWrite k 0x0#4 s)

/-- CIA_WR_PRB: write of port B (41_cia_registers.md R217). -/
def execCiaWrPrb (k : CiaId) (s : State) : Result := .next (ciaPlainWrite k 0x1#4 s)

/-- CIA_WR_DDRA: write of DDRA (41_cia_registers.md R218). -/
def execCiaWrDdra (k : CiaId) (s : State) : Result := .next (ciaPlainWrite k 0x2#4 s)

/-- CIA_WR_DDRB: write of DDRB (41_cia_registers.md R219). -/
def execCiaWrDdrb (k : CiaId) (s : State) : Result := .next (ciaPlainWrite k 0x3#4 s)

/-- CIA_WR_TALO: write of timer A low (41_cia_registers.md R220). -/
def execCiaWrTalo (k : CiaId) (s : State) : Result := .next (ciaTimerLowWrite k .a s)

/-- CIA_WR_TAHI: write of timer A high (41_cia_registers.md R221). -/
def execCiaWrTahi (k : CiaId) (s : State) : Result := .next (ciaTimerHighWrite k .a s)

/-- CIA_WR_TBLO: write of timer B low (41_cia_registers.md R222). -/
def execCiaWrTblo (k : CiaId) (s : State) : Result := .next (ciaTimerLowWrite k .b s)

/-- CIA_WR_TBHI: write of timer B high (41_cia_registers.md R223). -/
def execCiaWrTbhi (k : CiaId) (s : State) : Result := .next (ciaTimerHighWrite k .b s)

/-- CIA_WR_TOD10: write of TOD10 (41_cia_registers.md R224). -/
def execCiaWrTod10 (k : CiaId) (s : State) : Result := .next (ciaPlainWrite k 0x8#4 s)

/-- CIA_WR_TODSEC: write of TODSEC (41_cia_registers.md R225). -/
def execCiaWrTodsec (k : CiaId) (s : State) : Result := .next (ciaPlainWrite k 0x9#4 s)

/-- CIA_WR_TODMIN: write of TODMIN (41_cia_registers.md R226). -/
def execCiaWrTodmin (k : CiaId) (s : State) : Result := .next (ciaPlainWrite k 0xA#4 s)

/-- CIA_WR_TODHR: write of TODHR (41_cia_registers.md R227). -/
def execCiaWrTodhr (k : CiaId) (s : State) : Result := .next (ciaPlainWrite k 0xB#4 s)

/-- CIA_WR_SDR: write of SDR (41_cia_registers.md R228). -/
def execCiaWrSdr (k : CiaId) (s : State) : Result := .next (ciaPlainWrite k 0xC#4 s)

/-- CIA_WR_ICR: set-mask or clear-mask of bits 0-4; the flags are unchanged (41_cia_registers.md R229). -/
def execCiaWrIcr (k : CiaId) (s : State) : Result :=
  .next (s.setCia k ((s.cia k).setLatch 0xD#4 (icrMaskWrite s.inp.d ((s.cia k).w.read 0xD#4))))

/-- CIA_WR_CRA: write of timer A control (41_cia_registers.md R230). -/
def execCiaWrCra (k : CiaId) (s : State) : Result := .next (ciaControlWrite k .a s)

/-- CIA_WR_CRB: write of timer B control (41_cia_registers.md R231). -/
def execCiaWrCrb (k : CiaId) (s : State) : Result := .next (ciaControlWrite k .b s)

/-- The meaning of a CIA row on instance k: the second stage of a bus cycle (30_encoding.md R142). -/
def runCia (op : CiaOp) (k : CiaId) (s : State) : Result :=
  match op with
  | .rdPra1 => execCia1RdPra s
  | .rdPra2 => execCia2RdPra s
  | .rdPrb1 => execCia1RdPrb s
  | .rdPrb2 => execCia2RdPrb s
  | .rdDdra => execCiaRdDdra k s
  | .rdDdrb => execCiaRdDdrb k s
  | .rdTalo => execCiaRdTalo k s
  | .rdTahi => execCiaRdTahi k s
  | .rdTblo => execCiaRdTblo k s
  | .rdTbhi => execCiaRdTbhi k s
  | .rdTod10 => execCiaRdTod10 k s
  | .rdTodsec => execCiaRdTodsec k s
  | .rdTodmin => execCiaRdTodmin k s
  | .rdTodhr => execCiaRdTodhr k s
  | .rdSdr => execCiaRdSdr k s
  | .rdIcr => execCiaRdIcr k s
  | .rdCra => execCiaRdCra k s
  | .rdCrb => execCiaRdCrb k s
  | .wrPra => execCiaWrPra k s
  | .wrPrb => execCiaWrPrb k s
  | .wrDdra => execCiaWrDdra k s
  | .wrDdrb => execCiaWrDdrb k s
  | .wrTalo => execCiaWrTalo k s
  | .wrTahi => execCiaWrTahi k s
  | .wrTblo => execCiaWrTblo k s
  | .wrTbhi => execCiaWrTbhi k s
  | .wrTod10 => execCiaWrTod10 k s
  | .wrTodsec => execCiaWrTodsec k s
  | .wrTodmin => execCiaWrTodmin k s
  | .wrTodhr => execCiaWrTodhr k s
  | .wrSdr => execCiaWrSdr k s
  | .wrIcr => execCiaWrIcr k s
  | .wrCra => execCiaWrCra k s
  | .wrCrb => execCiaWrCrb k s

/-- The register access of CIA k at address A: the select word is formed, its row found and performed
(44_bus_arbiter.md R361, R362, R371, R372). -/
def ciaAccess (k : CiaId) (rw : Bool) (a : Addr) (s : State) : Result :=
  match lookupRow ciaRows (ciaWord k rw (ciaIndex a)) with
  | some op => runCia op k s
  | none => .refused .noRegister

end Sys2Proof.Machine
end

