-- ==== Sys2Proof/Machine/VicRegs.lean ====
section
/-! DEFINITION. The VIC register operations, one meaning per row of 30_encoding.md R156 (42_vic_registers.md R260-R295). A read places its byte in
`dout`; a write stores the bus cycle's data byte D, held in `inp`. -/

namespace Sys2Proof.Machine

/-- A plain read: register i of the read-visible set (42_vic_registers.md R260). -/
def vicPlainRead (i : BitVec 6) (s : State) : State := answer (s.vic.r.read i) s

/-- A plain write: D in the read-visible set (42_vic_registers.md R261). -/
def vicPlainWrite (i : BitVec 6) (s : State) : State := setVicReg i s.inp.d s

/-- VIC_RD_SPRPOS: read of sprite positions (42_vic_registers.md R262). -/
def execVicRdSprpos (i : BitVec 6) (s : State) : Result := .next (vicPlainRead i s)

/-- VIC_RD_CR1: read of control register 1, bit 7 live from the scanline (42_vic_registers.md R263). -/
def execVicRdCr1 (s : State) : Result :=
  .next (answer ((s.vic.r.read 0x11#6 &&& 0x7F#8) ||| (BitVec.ofBool (s.vic.line.getLsbD 8) ++ 0#7)) s)

/-- VIC_RD_RASTER: read of the raster register: the scanline's low byte (42_vic_registers.md R264). -/
def execVicRdRaster (s : State) : Result := .next (answer (s.vic.line.extractLsb' 0 8) s)

/-- VIC_RD_LP: read of light pen (42_vic_registers.md R265). -/
def execVicRdLp (i : BitVec 6) (s : State) : Result := .next (vicPlainRead i s)

/-- VIC_RD_SPREN: read of sprite enable (42_vic_registers.md R266). -/
def execVicRdSpren (s : State) : Result := .next (vicPlainRead 0x15#6 s)

/-- VIC_RD_CR2: read of control register 2 (42_vic_registers.md R267). -/
def execVicRdCr2 (s : State) : Result := .next (vicPlainRead 0x16#6 s)

/-- VIC_RD_SPRYEX: read of sprite Y expand (42_vic_registers.md R268). -/
def execVicRdSpryex (s : State) : Result := .next (vicPlainRead 0x17#6 s)

/-- VIC_RD_MEMPTR: read of memory pointers (42_vic_registers.md R269). -/
def execVicRdMemptr (s : State) : Result := .next (vicPlainRead 0x18#6 s)

/-- VIC_RD_IRQFLAG: read of the interrupt flag, which acknowledges it (42_vic_registers.md R270). -/
def execVicRdIrqflag (s : State) : Result := .next (answer (s.vic.r.read 0x19#6) (setVicReg 0x19#6 0x00#8 s))

/-- VIC_RD_IRQMASK: read of the interrupt mask (42_vic_registers.md R271). -/
def execVicRdIrqmask (s : State) : Result := .next (vicPlainRead 0x1A#6 s)

/-- VIC_RD_SPRMISC: read of sprite priority, multicolour, X expand (42_vic_registers.md R272). -/
def execVicRdSprmisc (i : BitVec 6) (s : State) : Result := .next (vicPlainRead i s)

/-- VIC_RD_COLL: read of collision registers (42_vic_registers.md R273). -/
def execVicRdColl (i : BitVec 6) (s : State) : Result := .next (vicPlainRead i s)

/-- VIC_RD_BORDER: read of border colour (42_vic_registers.md R274). -/
def execVicRdBorder (s : State) : Result := .next (vicPlainRead 0x20#6 s)

/-- VIC_RD_BG: read of background colours (42_vic_registers.md R275). -/
def execVicRdBg (i : BitVec 6) (s : State) : Result := .next (vicPlainRead i s)

/-- VIC_RD_SPRCOL: read of sprite colours (42_vic_registers.md R276). -/
def execVicRdSprcol (i : BitVec 6) (s : State) : Result := .next (vicPlainRead i s)

/-- VIC_RD_UNUSED: read of an unused index: $FF (42_vic_registers.md R277). -/
def execVicRdUnused (_i : BitVec 6) (s : State) : Result := .next (answer 0xFF#8 s)

/-- VIC_WR_SPRPOS: write of sprite positions (42_vic_registers.md R280). -/
def execVicWrSprpos (i : BitVec 6) (s : State) : Result := .next (vicPlainWrite i s)

/-- VIC_WR_CR1: write of control register 1: the latch whole, bits 6:0 read-visible (42_vic_registers.md R281). -/
def execVicWrCr1 (s : State) : Result :=
  .next (setVicReg 0x11#6 (s.inp.d &&& 0x7F#8) (setVicLatch 0x11#6 s.inp.d s))

/-- VIC_WR_RASTER: write of the raster register: the compare latch only (42_vic_registers.md R282). -/
def execVicWrRaster (s : State) : Result := .next (setVicLatch 0x12#6 s.inp.d s)

/-- VIC_WR_LP: write of light pen (42_vic_registers.md R283). -/
def execVicWrLp (i : BitVec 6) (s : State) : Result := .next (vicPlainWrite i s)

/-- VIC_WR_SPREN: write of sprite enable (42_vic_registers.md R284). -/
def execVicWrSpren (s : State) : Result := .next (vicPlainWrite 0x15#6 s)

/-- VIC_WR_CR2: write of control register 2 (42_vic_registers.md R285). -/
def execVicWrCr2 (s : State) : Result := .next (vicPlainWrite 0x16#6 s)

/-- VIC_WR_SPRYEX: write of sprite Y expand (42_vic_registers.md R286). -/
def execVicWrSpryex (s : State) : Result := .next (vicPlainWrite 0x17#6 s)

/-- VIC_WR_MEMPTR: write of memory pointers (42_vic_registers.md R287). -/
def execVicWrMemptr (s : State) : Result := .next (vicPlainWrite 0x18#6 s)

/-- VIC_WR_IRQFLAG: write of the interrupt flag: write one to clear (42_vic_registers.md R288). -/
def execVicWrIrqflag (s : State) : Result :=
  .next (setVicReg 0x19#6 (vicFlagWrite s.inp.d (s.vic.r.read 0x19#6)) s)

/-- VIC_WR_IRQMASK: write of the interrupt mask (42_vic_registers.md R289). -/
def execVicWrIrqmask (s : State) : Result := .next (vicPlainWrite 0x1A#6 s)

/-- VIC_WR_SPRMISC: write of sprite priority, multicolour, X expand (42_vic_registers.md R290). -/
def execVicWrSprmisc (i : BitVec 6) (s : State) : Result := .next (vicPlainWrite i s)

/-- VIC_WR_COLL: write of collision registers (42_vic_registers.md R291). -/
def execVicWrColl (i : BitVec 6) (s : State) : Result := .next (vicPlainWrite i s)

/-- VIC_WR_BORDER: write of border colour (42_vic_registers.md R292). -/
def execVicWrBorder (s : State) : Result := .next (vicPlainWrite 0x20#6 s)

/-- VIC_WR_BG: write of background colours (42_vic_registers.md R293). -/
def execVicWrBg (i : BitVec 6) (s : State) : Result := .next (vicPlainWrite i s)

/-- VIC_WR_SPRCOL: write of sprite colours (42_vic_registers.md R294). -/
def execVicWrSprcol (i : BitVec 6) (s : State) : Result := .next (vicPlainWrite i s)

/-- VIC_WR_UNUSED: write of an unused index: no VIC state changes (42_vic_registers.md R295). -/
def execVicWrUnused (_i : BitVec 6) (s : State) : Result := .next s

/-- The meaning of a VIC row on register index i: the second stage of a bus cycle (30_encoding.md R142). -/
def runVic (op : VicOp) (i : BitVec 6) (s : State) : Result :=
  match op with
  | .rdSprpos => execVicRdSprpos i s
  | .rdCr1 => execVicRdCr1 s
  | .rdRaster => execVicRdRaster s
  | .rdLp => execVicRdLp i s
  | .rdSpren => execVicRdSpren s
  | .rdCr2 => execVicRdCr2 s
  | .rdSpryex => execVicRdSpryex s
  | .rdMemptr => execVicRdMemptr s
  | .rdIrqflag => execVicRdIrqflag s
  | .rdIrqmask => execVicRdIrqmask s
  | .rdSprmisc => execVicRdSprmisc i s
  | .rdColl => execVicRdColl i s
  | .rdBorder => execVicRdBorder s
  | .rdBg => execVicRdBg i s
  | .rdSprcol => execVicRdSprcol i s
  | .rdUnused => execVicRdUnused i s
  | .wrSprpos => execVicWrSprpos i s
  | .wrCr1 => execVicWrCr1 s
  | .wrRaster => execVicWrRaster s
  | .wrLp => execVicWrLp i s
  | .wrSpren => execVicWrSpren s
  | .wrCr2 => execVicWrCr2 s
  | .wrSpryex => execVicWrSpryex s
  | .wrMemptr => execVicWrMemptr s
  | .wrIrqflag => execVicWrIrqflag s
  | .wrIrqmask => execVicWrIrqmask s
  | .wrSprmisc => execVicWrSprmisc i s
  | .wrColl => execVicWrColl i s
  | .wrBorder => execVicWrBorder s
  | .wrBg => execVicWrBg i s
  | .wrSprcol => execVicWrSprcol i s
  | .wrUnused => execVicWrUnused i s

/-- The VIC register access at address A: the select word is formed, its row found and performed
(44_bus_arbiter.md R363, R373). -/
def vicAccess (rw : Bool) (a : Addr) (s : State) : Result :=
  match lookupRow vicRows (vicWord rw (vicIndexOf a)) with
  | some op => runVic op (vicIndexOf a) s
  | none => .refused .noRegister

end Sys2Proof.Machine
end

