-- ==== Sys2Proof/Machine/Bus.lean ====
section
/-! DEFINITION. The bus-cycle operations, one meaning per BUS mnemonic (44_bus_arbiter.md R360-R376), and Route (R353). A meaning takes
the decode word's mode and address; the mode has done its work in selecting the row. -/

namespace Sys2Proof.Machine

/-- BUS_RD_RAM: a read answered by RAM (44_bus_arbiter.md R360). -/
def execBusRdRam (_m : BitVec 3) (a : Addr) (s : State) : Result :=
  .next (answer (s.ram.read a.toNat) (openCycle s))

/-- BUS_RD_VIC: a read answered by the VIC (44_bus_arbiter.md R363). -/
def execBusRdVic (_m : BitVec 3) (a : Addr) (s : State) : Result :=
  vicAccess true a (openCycle s)

/-- BUS_RD_SID: a read answered by the external SID (44_bus_arbiter.md R364). -/
def execBusRdSid (_m : BitVec 3) (_a : Addr) (s : State) : Result :=
  .next (answer s.inp.sidRead (openCycle s))

/-- BUS_RD_COLOR: a read answered by colour memory, which is RAM (44_bus_arbiter.md R365). -/
def execBusRdColor (_m : BitVec 3) (a : Addr) (s : State) : Result :=
  .next (answer (s.ram.read a.toNat) (openCycle s))

/-- BUS_RD_CIA1: a read answered by CIA1 (44_bus_arbiter.md R361). -/
def execBusRdCia1 (_m : BitVec 3) (a : Addr) (s : State) : Result :=
  ciaAccess .cia1 true a (openCycle s)

/-- BUS_RD_CIA2: a read answered by CIA2 (44_bus_arbiter.md R362). -/
def execBusRdCia2 (_m : BitVec 3) (a : Addr) (s : State) : Result :=
  ciaAccess .cia2 true a (openCycle s)

/-- BUS_RD_IOEXP: a read answered by the expansion window, which is RAM (44_bus_arbiter.md R366). -/
def execBusRdIoexp (_m : BitVec 3) (a : Addr) (s : State) : Result :=
  .next (answer (s.ram.read a.toNat) (openCycle s))

/-- BUS_RD_CHAR: a read answered by the character ROM (44_bus_arbiter.md R367). -/
def execBusRdChar (_m : BitVec 3) (a : Addr) (s : State) : Result :=
  .next (answer (Config.charRom (romOffset12 a)) (openCycle s))

/-- BUS_RD_BASIC: a read answered by the BASIC ROM (44_bus_arbiter.md R368). -/
def execBusRdBasic (_m : BitVec 3) (a : Addr) (s : State) : Result :=
  .next (answer (Config.basicRom (romOffset13 a)) (openCycle s))

/-- BUS_RD_KERNAL: a read answered by the KERNAL ROM (44_bus_arbiter.md R369). -/
def execBusRdKernal (_m : BitVec 3) (a : Addr) (s : State) : Result :=
  .next (answer (Config.kernalRom (romOffset13 a)) (openCycle s))

/-- BUS_WR_RAM: a write into RAM (44_bus_arbiter.md R370). -/
def execBusWrRam (_m : BitVec 3) (a : Addr) (s : State) : Result :=
  .next (storeRam a (openCycle s))

/-- BUS_WR_VIC: a write into RAM that the VIC receives too (44_bus_arbiter.md R373). -/
def execBusWrVic (_m : BitVec 3) (a : Addr) (s : State) : Result :=
  vicAccess false a (storeRam a (openCycle s))

/-- BUS_WR_SID: a write into RAM that the external SID receives too (44_bus_arbiter.md R374). -/
def execBusWrSid (_m : BitVec 3) (a : Addr) (s : State) : Result :=
  .next (deliverSid a (storeRam a (openCycle s)))

/-- BUS_WR_COLOR: a write into RAM, colour memory (44_bus_arbiter.md R375). -/
def execBusWrColor (_m : BitVec 3) (a : Addr) (s : State) : Result :=
  .next (storeRam a (openCycle s))

/-- BUS_WR_CIA1: a write into RAM that CIA1 receives too (44_bus_arbiter.md R371). -/
def execBusWrCia1 (_m : BitVec 3) (a : Addr) (s : State) : Result :=
  ciaAccess .cia1 false a (storeRam a (openCycle s))

/-- BUS_WR_CIA2: a write into RAM that CIA2 receives too (44_bus_arbiter.md R372). -/
def execBusWrCia2 (_m : BitVec 3) (a : Addr) (s : State) : Result :=
  ciaAccess .cia2 false a (storeRam a (openCycle s))

/-- BUS_WR_IOEXP: a write into RAM, the expansion window (44_bus_arbiter.md R376). -/
def execBusWrIoexp (_m : BitVec 3) (a : Addr) (s : State) : Result :=
  .next (storeRam a (openCycle s))

/-- The meaning of a BUS row on a mode and an address. -/
def runBus (op : BusOp) (m : BitVec 3) (a : Addr) (s : State) : Result :=
  match op with
  | .rdRam => execBusRdRam m a s
  | .rdVic => execBusRdVic m a s
  | .rdSid => execBusRdSid m a s
  | .rdColor => execBusRdColor m a s
  | .rdCia1 => execBusRdCia1 m a s
  | .rdCia2 => execBusRdCia2 m a s
  | .rdIoexp => execBusRdIoexp m a s
  | .rdChar => execBusRdChar m a s
  | .rdBasic => execBusRdBasic m a s
  | .rdKernal => execBusRdKernal m a s
  | .wrRam => execBusWrRam m a s
  | .wrVic => execBusWrVic m a s
  | .wrSid => execBusWrSid m a s
  | .wrColor => execBusWrColor m a s
  | .wrCia1 => execBusWrCia1 m a s
  | .wrCia2 => execBusWrCia2 m a s
  | .wrIoexp => execBusWrIoexp m a s

/-- Route(W): the row W selects is performed; a word that selects none raises DecodeGap(W) (44_bus_arbiter.md R353). -/
def route (w : BitVec 20) (s : State) : Result :=
  match lookupRow busRows w with
  | some op => runBus op (busMode w) (busAddr w) s
  | none => raiseDecodeGap w

end Sys2Proof.Machine
end

