-- ==== Sys2Proof/Machine/Render.lean ====
section
/-! DEFINITION. Bank resolution, the fetches and the scanline renderer of the VIC (43_vic_raster_render.md R310-R335). -/

namespace Sys2Proof.Machine

/-- What one render reads: the character ROM, the video bank's base, RAM and the read-visible registers (R300). -/
structure VideoSource where
  charRom : BitVec 12 → Byte
  bankBase : Nat
  ram : Memory
  r : RegFile 6

/-- `VicFetch(off)`: RAM at bank offset off, whatever the visibility flags (R314). -/
def vicFetch (v : VideoSource) (off : Nat) : Byte := v.ram.read (v.bankBase + off)

/-- `VicCharFetch(off)`: the character ROM at $1000-$1FFF of the banks $0000 and $8000, else RAM (R314). -/
def vicCharFetch (v : VideoSource) (off : Nat) : Byte :=
  if (v.bankBase = 0x0000 || v.bankBase = 0x8000) && 0x1000 ≤ off && off ≤ 0x1FFF then v.charRom (BitVec.ofNat 12 (off - 0x1000))
  else v.ram.read (v.bankBase + off)

/-- `colour(n) = ram[$D800 + n] & $F` (R315). -/
def cellColour (v : VideoSource) (n : Nat) : Colour := lowNibble (v.ram.read (0xD800 + n))

/-- The matrix byte of cell n: the character code, or the screen byte of a bitmap cell (R330, R333). -/
def matrixByte (v : VideoSource) (n : Nat) : Byte := vicFetch v (matrixOff v.r + n)

/-- Line ly of the character data of a code (R330). -/
def charRow (v : VideoSource) (code : Nat) (ly : Nat) : Byte := vicCharFetch v (charOff v.r + code * 8 + ly)

/-- Line ly of the bitmap of cell n (R333). -/
def bitmapRow (v : VideoSource) (n ly : Nat) : Byte := vicFetch v (bitmapOff v.r + n * 8 + ly)

/-- Eight pixels, one per bit, bit 7 leftmost: `p[px] = bits[7 - px] ? on : off` (R330). -/
def hiresPixels (bits : Byte) (on off : Colour) : List Colour :=
  (List.range 8).map (fun px => if bits.getLsbD (7 - px) then on else off)

/-- The colour a bit pair selects. -/
def pickColour (c0 c1 c2 c3 : Colour) (pair : BitVec 2) : Colour :=
  if pair = 0#2 then c0 else if pair = 1#2 then c1 else if pair = 2#2 then c2 else c3

/-- Four double-width pixels, one per bit pair, the top pair leftmost: `pair = (bits >> (6 - 2j)) & 3` (R323, R331). -/
def multiPixels (bits : Byte) (c0 c1 c2 c3 : Colour) : List Colour :=
  (List.range 8).map (fun px => pickColour c0 c1 c2 c3 (bits.extractLsb' (6 - 2 * (px / 2)) 2))

/-- The five modes and the invalid ones (R320). -/
inductive VideoMode where
  | standardText
  | multicolourText
  | extendedText
  | standardBitmap
  | multicolourBitmap
  | invalid
  deriving DecidableEq, Repr

/-- The mode of ECM, BMM and MCM (R320). -/
def videoMode (r : RegFile 6) : VideoMode :=
  match (r.read 0x11#6).getLsbD 6, (r.read 0x11#6).getLsbD 5, (r.read 0x16#6).getLsbD 4 with
  | false, false, false => .standardText
  | false, false, true => .multicolourText
  | true, false, false => .extendedText
  | false, true, false => .standardBitmap
  | false, true, true => .multicolourBitmap
  | true, false, true => .invalid
  | true, true, false => .invalid
  | true, true, true => .invalid

/-- Standard text (R330). -/
def standardTextPixels (v : VideoSource) (n ly : Nat) : List Colour :=
  hiresPixels (charRow v (matrixByte v n).toNat ly) (cellColour v n) (background v.r 0#2)

/-- Multicolour text (R331): a cell whose colour bit 3 is 0 is a hi-res cell; the foreground is the colour's bits 2:0. -/
def multicolourTextPixels (v : VideoSource) (n ly : Nat) : List Colour :=
  let bits := charRow v (matrixByte v n).toNat ly
  let c := cellColour v n
  if c.getLsbD 3 then
    multiPixels bits (background v.r 0#2) (background v.r 1#2) (background v.r 2#2) (c &&& 7#4)
  else hiresPixels bits (c &&& 7#4) (background v.r 0#2)

/-- Extended-colour text (R332): 64 shapes, the code's top two bits select the background. -/
def extendedTextPixels (v : VideoSource) (n ly : Nat) : List Colour :=
  let code := matrixByte v n
  hiresPixels (charRow v (code &&& 0x3F#8).toNat ly) (cellColour v n) (background v.r (code.extractLsb' 6 2))

/-- Standard bitmap (R333): the screen byte's nibbles are the two colours. -/
def standardBitmapPixels (v : VideoSource) (n ly : Nat) : List Colour :=
  hiresPixels (bitmapRow v n ly) (highNibble (matrixByte v n)) (lowNibble (matrixByte v n))

/-- Multicolour bitmap (R334). -/
def multicolourBitmapPixels (v : VideoSource) (n ly : Nat) : List Colour :=
  multiPixels (bitmapRow v n ly) (background v.r 0#2) (highNibble (matrixByte v n)) (lowNibble (matrixByte v n))
    (cellColour v n)

/-- `CellPixels(mode, n, ly)`: the eight colours of line ly of cell n, leftmost first (R321). -/
def cellPixels (v : VideoSource) (n ly : Nat) : List Colour :=
  match videoMode v.r with
  | .standardText => standardTextPixels v n ly
  | .multicolourText => multicolourTextPixels v n ly
  | .extendedText => extendedTextPixels v n ly
  | .standardBitmap => standardBitmapPixels v n ly
  | .multicolourBitmap => multicolourBitmapPixels v n ly
  | .invalid => List.replicate 8 0#4

/-- Two pixels a byte, the left one in the high nibble (R322). -/
def packPixels : List Colour → List Byte
  | p :: q :: ps => (p ++ q) :: packPixels ps
  | [_] => []
  | [] => []

/-- The 160 bytes of framebuffer row y: 40 cells of character row y / 8, line y mod 8 (R321). -/
def rowBytes (v : VideoSource) (y : Nat) : List Byte :=
  (List.range 40).flatMap (fun cx => packPixels (cellPixels v (y / 8 * 40 + cx) (y % 8)))

/-- `RenderRow(y)`: the row's bytes written from `fb[y * 160]` (R321). -/
def renderRow (v : VideoSource) (y : Nat) (fb : Memory) : Memory := fb.writeBlock (y * 160) (rowBytes v y)

end Sys2Proof.Machine
end

