-- ==== Sys2Proof/Machine/Raster.lean ====
section
/-! DEFINITION. The VIC clock, the raster counter and compare, and the decision to render (43_vic_raster_render.md R300-R304). -/

namespace Sys2Proof.Machine

/-- The parameters of the picture geometry (00_scope.md R13). -/
structure VideoParams where
  cyclesPerLine : Nat
  totalLines : Nat
  fbFirstLine : Nat
  deriving DecidableEq, Repr

/-- The parameters of this construction. -/
def videoParams : VideoParams :=
  { cyclesPerLine := Config.cyclesPerLine, totalLines := Config.totalLines, fbFirstLine := Config.fbFirstLine }

/-- AdvanceLine: the next scanline modulo `TOTAL_LINES`, at cycle 0 (R300, R301). -/
def advanceLine (p : VideoParams) (v : Vic) : Vic :=
  { v with cycle := 0, line := BitVec.ofNat 9 ((v.line.toNat + 1) % p.totalLines) }

/-- CompareRaster (R302). -/
def compareRaster (v : Vic) : Vic :=
  if rasterMatch v then { v with r := v.r.write 0x19#6 (vicFlagRaise (v.r.read 0x19#6)) } else v

/-- Whether the next VIC tick begins a new line: its count reaches `CYCLES_PER_LINE` (R300). -/
def lineEnds (p : VideoParams) (v : Vic) : Bool := decide (p.cyclesPerLine ≤ v.cycle + 1)

/-- VIC_TICK, the registers and counters after it (R300). -/
def vicTick (p : VideoParams) (v : Vic) : Vic :=
  if lineEnds p v then compareRaster (advanceLine p v) else { v with cycle := v.cycle + 1 }

/-- Whether a scanline lies in the framebuffer's window with output enabled (R303). -/
def lineVisible (p : VideoParams) (v : Vic) : Bool :=
  denBit v.r && decide (p.fbFirstLine ≤ v.line.toNat) && decide (v.line.toNat < p.fbFirstLine + 200)

/-- RenderIfVisible of the line that v has begun (R303). -/
def renderIfVisible (p : VideoParams) (src : VideoSource) (v : Vic) (fb : Memory) : Memory :=
  if lineVisible p v then renderRow src (v.line.toNat - p.fbFirstLine) fb else fb

/-- What the render of this state's CLK reads (R300, R310). -/
def videoSource (s : State) : VideoSource :=
  { charRom := Config.charRom, bankBase := bankBase s.cia2, ram := s.ram, r := s.vic.r }

/-- VIC_TICK on the state: counters, compare, and the new line's render in the same CLK (R300). -/
def vicClk (s : State) : State :=
  { s with
    vic := vicTick videoParams s.vic
    fb :=
      if lineEnds videoParams s.vic then
        renderIfVisible videoParams (videoSource s) (vicTick videoParams s.vic) s.fb
      else s.fb }

end Sys2Proof.Machine
end

