-- ==== Sys2Proof/Machine/Clock.lean ====
section
/-! DEFINITION. The two entry points of the core: CLK (44_bus_arbiter.md R350) and RESET (70_reset_and_hazards.md R450). -/

namespace Sys2Proof.Machine

/-- The devices' ticks and the recomputed visibility: the part of a normal CLK before the access (44_bus_arbiter.md R350, R351). -/
def tickDevices (s : State) : State := recomputeVisibility (ciaClk .cia2 (ciaClk .cia1 (vicClk s)))

/-- A normal CLK: the devices tick, the access is routed, the outputs are given; the NMI edge is the result of CIA2's clock
(44_bus_arbiter.md R350). -/
def normalClk (s : State) : Result :=
  match route (cycleWord (tickDevices s)) (tickDevices s) with
  | .next t => .next (emit (ciaSignal s.cia2) false t)
  | .fault r => .fault r
  | .refused r => .refused r

/-- A CLK of the CPU reset handshake: RES as long as more than `RESET_SETTLE` such CLKs are left, and nothing else
(44_bus_arbiter.md R350, 70_reset_and_hazards.md R452). -/
def handshakeClk (s : State) : State :=
  emit false (decide (Config.resetSettle < s.rstLeft)) (openCycle { s with rstLeft := s.rstLeft - 1 })

/-- CLK (44_bus_arbiter.md R350); refused before the first RESET (70_reset_and_hazards.md R451, D55). -/
def execClk (s : State) : Result :=
  if s.everReset then (if 0 < s.rstLeft then .next (handshakeClk s) else normalClk s) else .refused .clkBeforeReset

/-- RESET (70_reset_and_hazards.md R450): RAM is not changed; the outputs go idle (log 6). -/
def execReset (s : State) : Result :=
  .next
    { s with
      cia1 := Cia.zero
      cia2 := Cia.zero
      vic := Vic.zero
      fb := []
      vis := Visibility.off
      rstLeft := Config.resetHold + Config.resetSettle
      out := Outputs.idle
      everReset := true }

end Sys2Proof.Machine
end

