-- ==== Sys2Proof/Machine/Dispatch.lean ====
section
/-! DEFINITION. The dispatch: one arm per operation, each one call of its meaning. -/

namespace Sys2Proof.Machine

/-- The meaning of an operation. -/
def exec (i : Instr) (s : State) : Host.Outcome State Fault Refusal :=
  match i with
  | .busRdRam m a => Sys2Proof.Machine.execBusRdRam m a s
  | .busRdVic m a => Sys2Proof.Machine.execBusRdVic m a s
  | .busRdSid m a => Sys2Proof.Machine.execBusRdSid m a s
  | .busRdColor m a => Sys2Proof.Machine.execBusRdColor m a s
  | .busRdCia1 m a => Sys2Proof.Machine.execBusRdCia1 m a s
  | .busRdCia2 m a => Sys2Proof.Machine.execBusRdCia2 m a s
  | .busRdIoexp m a => Sys2Proof.Machine.execBusRdIoexp m a s
  | .busRdChar m a => Sys2Proof.Machine.execBusRdChar m a s
  | .busRdBasic m a => Sys2Proof.Machine.execBusRdBasic m a s
  | .busRdKernal m a => Sys2Proof.Machine.execBusRdKernal m a s
  | .busWrRam m a => Sys2Proof.Machine.execBusWrRam m a s
  | .busWrVic m a => Sys2Proof.Machine.execBusWrVic m a s
  | .busWrSid m a => Sys2Proof.Machine.execBusWrSid m a s
  | .busWrColor m a => Sys2Proof.Machine.execBusWrColor m a s
  | .busWrCia1 m a => Sys2Proof.Machine.execBusWrCia1 m a s
  | .busWrCia2 m a => Sys2Proof.Machine.execBusWrCia2 m a s
  | .busWrIoexp m a => Sys2Proof.Machine.execBusWrIoexp m a s
  | .cia1RdPra => Sys2Proof.Machine.execCia1RdPra s
  | .cia2RdPra => Sys2Proof.Machine.execCia2RdPra s
  | .cia1RdPrb => Sys2Proof.Machine.execCia1RdPrb s
  | .cia2RdPrb => Sys2Proof.Machine.execCia2RdPrb s
  | .ciaRdDdra k => Sys2Proof.Machine.execCiaRdDdra k s
  | .ciaRdDdrb k => Sys2Proof.Machine.execCiaRdDdrb k s
  | .ciaRdTalo k => Sys2Proof.Machine.execCiaRdTalo k s
  | .ciaRdTahi k => Sys2Proof.Machine.execCiaRdTahi k s
  | .ciaRdTblo k => Sys2Proof.Machine.execCiaRdTblo k s
  | .ciaRdTbhi k => Sys2Proof.Machine.execCiaRdTbhi k s
  | .ciaRdTod10 k => Sys2Proof.Machine.execCiaRdTod10 k s
  | .ciaRdTodsec k => Sys2Proof.Machine.execCiaRdTodsec k s
  | .ciaRdTodmin k => Sys2Proof.Machine.execCiaRdTodmin k s
  | .ciaRdTodhr k => Sys2Proof.Machine.execCiaRdTodhr k s
  | .ciaRdSdr k => Sys2Proof.Machine.execCiaRdSdr k s
  | .ciaRdIcr k => Sys2Proof.Machine.execCiaRdIcr k s
  | .ciaRdCra k => Sys2Proof.Machine.execCiaRdCra k s
  | .ciaRdCrb k => Sys2Proof.Machine.execCiaRdCrb k s
  | .ciaWrPra k => Sys2Proof.Machine.execCiaWrPra k s
  | .ciaWrPrb k => Sys2Proof.Machine.execCiaWrPrb k s
  | .ciaWrDdra k => Sys2Proof.Machine.execCiaWrDdra k s
  | .ciaWrDdrb k => Sys2Proof.Machine.execCiaWrDdrb k s
  | .ciaWrTalo k => Sys2Proof.Machine.execCiaWrTalo k s
  | .ciaWrTahi k => Sys2Proof.Machine.execCiaWrTahi k s
  | .ciaWrTblo k => Sys2Proof.Machine.execCiaWrTblo k s
  | .ciaWrTbhi k => Sys2Proof.Machine.execCiaWrTbhi k s
  | .ciaWrTod10 k => Sys2Proof.Machine.execCiaWrTod10 k s
  | .ciaWrTodsec k => Sys2Proof.Machine.execCiaWrTodsec k s
  | .ciaWrTodmin k => Sys2Proof.Machine.execCiaWrTodmin k s
  | .ciaWrTodhr k => Sys2Proof.Machine.execCiaWrTodhr k s
  | .ciaWrSdr k => Sys2Proof.Machine.execCiaWrSdr k s
  | .ciaWrIcr k => Sys2Proof.Machine.execCiaWrIcr k s
  | .ciaWrCra k => Sys2Proof.Machine.execCiaWrCra k s
  | .ciaWrCrb k => Sys2Proof.Machine.execCiaWrCrb k s
  | .vicRdSprpos idx => Sys2Proof.Machine.execVicRdSprpos idx s
  | .vicRdCr1 => Sys2Proof.Machine.execVicRdCr1 s
  | .vicRdRaster => Sys2Proof.Machine.execVicRdRaster s
  | .vicRdLp idx => Sys2Proof.Machine.execVicRdLp idx s
  | .vicRdSpren => Sys2Proof.Machine.execVicRdSpren s
  | .vicRdCr2 => Sys2Proof.Machine.execVicRdCr2 s
  | .vicRdSpryex => Sys2Proof.Machine.execVicRdSpryex s
  | .vicRdMemptr => Sys2Proof.Machine.execVicRdMemptr s
  | .vicRdIrqflag => Sys2Proof.Machine.execVicRdIrqflag s
  | .vicRdIrqmask => Sys2Proof.Machine.execVicRdIrqmask s
  | .vicRdSprmisc idx => Sys2Proof.Machine.execVicRdSprmisc idx s
  | .vicRdColl idx => Sys2Proof.Machine.execVicRdColl idx s
  | .vicRdBorder => Sys2Proof.Machine.execVicRdBorder s
  | .vicRdBg idx => Sys2Proof.Machine.execVicRdBg idx s
  | .vicRdSprcol idx => Sys2Proof.Machine.execVicRdSprcol idx s
  | .vicRdUnused idx => Sys2Proof.Machine.execVicRdUnused idx s
  | .vicWrSprpos idx => Sys2Proof.Machine.execVicWrSprpos idx s
  | .vicWrCr1 => Sys2Proof.Machine.execVicWrCr1 s
  | .vicWrRaster => Sys2Proof.Machine.execVicWrRaster s
  | .vicWrLp idx => Sys2Proof.Machine.execVicWrLp idx s
  | .vicWrSpren => Sys2Proof.Machine.execVicWrSpren s
  | .vicWrCr2 => Sys2Proof.Machine.execVicWrCr2 s
  | .vicWrSpryex => Sys2Proof.Machine.execVicWrSpryex s
  | .vicWrMemptr => Sys2Proof.Machine.execVicWrMemptr s
  | .vicWrIrqflag => Sys2Proof.Machine.execVicWrIrqflag s
  | .vicWrIrqmask => Sys2Proof.Machine.execVicWrIrqmask s
  | .vicWrSprmisc idx => Sys2Proof.Machine.execVicWrSprmisc idx s
  | .vicWrColl idx => Sys2Proof.Machine.execVicWrColl idx s
  | .vicWrBorder => Sys2Proof.Machine.execVicWrBorder s
  | .vicWrBg idx => Sys2Proof.Machine.execVicWrBg idx s
  | .vicWrSprcol idx => Sys2Proof.Machine.execVicWrSprcol idx s
  | .vicWrUnused idx => Sys2Proof.Machine.execVicWrUnused idx s
  | .clk => Sys2Proof.Machine.execClk s
  | .reset => Sys2Proof.Machine.execReset s

end Sys2Proof.Machine
end

