-- ==== Sys2Proof/Machine/Step.lean ====
section
/-! DEFINITION. One step of the machine: the host's next call, decoded and performed (00_scope.md R9, R11; log 4). -/

namespace Sys2Proof.Machine

/-- One step: the next call's event code is decoded (30_encoding.md R145, R157), its inputs are presented, and its operation is
performed. -/
def step (s : State) : Host.Outcome State Fault Refusal :=
  match decodeWord (.event (eventCode (nextCall s))) with
  | .ok i => exec i (latchInputs (nextCall s) (takeCall s))
  | .error _ => .refused .noEvent

/-- The state in which the very next step runs the operation of the opcode table's word w of `nbits` bits (log 10, log 11). -/
def State.withFetchWord (s : State) (nbits w : Nat) : State :=
  match tableCode nbits w with
  | some c => placeCode c s
  | none => s

end Sys2Proof.Machine
end

