-- ==== Sys2Proof/Safety.lean ====
section
/-! DEFINITION. The terms claims use: the operation a decode target names, what one register access reads, the invariant of the machine. -/

namespace Sys2Proof.Machine

/-- The operation of a read cycle whose target is t (20_memory.md R110, 30_encoding.md R153). -/
def readInstr (t : Target) (m : BitVec 3) (a : Addr) : Instr :=
  match t with
  | .ram => .busRdRam m a
  | .vic => .busRdVic m a
  | .sid => .busRdSid m a
  | .color => .busRdColor m a
  | .cia1 => .busRdCia1 m a
  | .cia2 => .busRdCia2 m a
  | .ioexp => .busRdIoexp m a
  | .char => .busRdChar m a
  | .basic => .busRdBasic m a
  | .kernal => .busRdKernal m a

/-- The operation of a write cycle whose address, decoded as a read, has target t (20_memory.md R111, 30_encoding.md R154). -/
def writeInstr (t : Target) (m : BitVec 3) (a : Addr) : Instr :=
  match t with
  | .ram => .busWrRam m a
  | .vic => .busWrVic m a
  | .sid => .busWrSid m a
  | .color => .busWrColor m a
  | .cia1 => .busWrCia1 m a
  | .cia2 => .busWrCia2 m a
  | .ioexp => .busWrIoexp m a
  | .char => .busWrRam m a
  | .basic => .busWrRam m a
  | .kernal => .busWrRam m a

/-- The state in which the operation of a read leaves the byte v driven on the data bus, and all else as it was. -/
def drives (v : Byte) (s : State) : State := { s with out := { s.out with dout := some v } }

/-- The state of a bus cycle before its access: nothing driven, nothing sent to the SID. -/
def undriven (s : State) : State := { s with out := { s.out with dout := none, sidWr := none } }

/-- The state of a write cycle to address a once RAM has its byte and before a device gets it. -/
def written (a : Addr) (s : State) : State := { undriven s with ram := s.ram.write a.toNat s.inp.d }

/-- A normal CLK: a RESET has come and its handshake is over (70_reset_and_hazards.md R451, R452). -/
def Normal (s : State) : Prop := s.everReset = true ∧ s.rstLeft = 0

/-- The access of this CLK reads register i of CIA k. -/
def readsCia (s : State) (k : CiaId) (i : BitVec 4) : Prop :=
  s.inp.rw = true ∧ readTarget (modeOf s) s.inp.a = some (match k with | .cia1 => .cia1 | .cia2 => .cia2) ∧ ciaIndex s.inp.a = i

/-- The access of this CLK reads or writes register i of the VIC. -/
def accessesVic (s : State) (i : BitVec 6) : Prop :=
  readTarget (modeOf s) s.inp.a = some .vic ∧ vicIndexOf s.inp.a = i

/-- A CIA register whose two views are kept in sync: all but the timer bytes and the ICR (10_state.md R45-R55). -/
def inSync (i : BitVec 4) : Bool := !(i == 0x4#4 || i == 0x5#4 || i == 0x6#4 || i == 0x7#4 || i == 0xD#4)

/-- What holds of a CIA in every run (10_state.md R45, R52, R53). -/
structure CiaInv (c : Cia) : Prop where
  /-- The flags are none, or one or both timers' with the aggregate: bits 2-6 always 0, bit 7 set with a source (R52). -/
  flags : c.r.read 0xD#4 = 0x00#8 ∨ c.r.read 0xD#4 = 0x81#8 ∨ c.r.read 0xD#4 = 0x82#8 ∨ c.r.read 0xD#4 = 0x83#8
  /-- The mask's bits 7:5 are 0 (R53). -/
  mask : c.w.read 0xD#4 &&& 0xE0#8 = 0x00#8
  /-- Plain and control registers read as written (R45, R54). -/
  sync : ∀ i, inSync i = true → c.r.read i = c.w.read i

/-- What holds of the VIC in every run (10_state.md R57, R59, R60, R64, R68, R80, R81). -/
structure VicInv (p : VideoParams) (v : Vic) : Prop where
  /-- The interrupt flag is $00 or $81 (95_test_vectors.md section 3). -/
  flag : v.r.read 0x19#6 = 0x00#8 ∨ v.r.read 0x19#6 = 0x81#8
  /-- Bit 7 of $11 is not stored in the read-visible set (R59). -/
  control : (v.r.read 0x11#6).getLsbD 7 = false
  /-- $12 and the indices without a register are not used in the read-visible set (R60, R68). -/
  unused : ∀ i, i = 0x12#6 ∨ 0x2F ≤ i.toNat → v.r.read i = 0x00#8
  /-- Only $11 and $12 are ever written in the latch set (R57). -/
  latch : ∀ i, i ≠ 0x11#6 → i ≠ 0x12#6 → v.w.read i = 0x00#8
  /-- The cycle stays inside the line (R80). -/
  cycle : v.cycle < p.cyclesPerLine
  /-- The scanline stays inside the frame (R81). -/
  line : v.line.toNat < p.totalLines

/-- The invariant of the machine: what RESET leaves and every step keeps. -/
structure MachineInv (s : State) : Prop where
  /-- RAM is canonical over its 65536 addresses. -/
  ram : s.ram.wf ramSize = true
  /-- The framebuffer is canonical over its 32000 bytes. -/
  fb : s.fb.wf fbSize = true
  /-- CIA1. -/
  cia1 : CiaInv s.cia1
  /-- CIA2. -/
  cia2 : CiaInv s.cia2
  /-- The VIC. -/
  vic : VicInv videoParams s.vic
  /-- The handshake is no longer than RESET made it (R83). -/
  handshake : s.rstLeft ≤ Config.resetHold + Config.resetSettle
  /-- The first RESET has come (70_reset_and_hazards.md R451). -/
  started : s.everReset = true
  /-- The IRQ output shows the pending flags (60_exceptions.md R402). -/
  irq : s.out.irq = irqLine s

end Sys2Proof.Machine
end

