-- ==== Sys2Proof/Certificates/Slice0/Obligations.lean ====
section
/-! DEFINITION. The statements about the machine, for the provers. -/

open Sys2Proof Sys2Proof.Machine

/-- Words written out from the V-PLA vectors and the CIA, VIC and EVENT maps decode to the operation the spec lists for
each. (Derived from 95_test_vectors.md V-PLA, 30_encoding.md R155, 30_encoding.md R156, 30_encoding.md R157.) -/
def Obligations.SampleWordsDecode : Prop :=
  decodeWord (.bus 0xF0000#20) = .ok (.busRdRam 7 0x0000) ∧ decodeWord (.bus 0x89FFF#20) = .ok (.busRdRam 0 0x9FFF) ∧
  decodeWord (.bus 0xFA000#20) = .ok (.busRdBasic 7 0xA000) ∧ decodeWord (.bus 0xEA000#20) = .ok (.busRdRam 6 0xA000) ∧
  decodeWord (.bus 0xFD3FF#20) = .ok (.busRdVic 7 0xD3FF) ∧ decodeWord (.bus 0xFDCFF#20) = .ok (.busRdCia1 7 0xDCFF) ∧
  decodeWord (.bus 0xBD000#20) = .ok (.busRdChar 3 0xD000) ∧ decodeWord (.bus 0xEFFFC#20) = .ok (.busRdKernal 6 0xFFFC) ∧
  decodeWord (.bus 0x7D020#20) = .ok (.busWrVic 7 0xD020) ∧ decodeWord (.bus 0x5DC0D#20) = .ok (.busWrCia1 5 0xDC0D) ∧
  decodeWord (.bus 0x4D020#20) = .ok (.busWrRam 4 0xD020) ∧ decodeWord (.cia 0x31#6) = .ok .cia2RdPrb ∧
  decodeWord (.cia 0x3D#6) = .ok (.ciaRdIcr .cia2) ∧ decodeWord (.cia 0x0E#6) = .ok (.ciaWrCra .cia1) ∧
  decodeWord (.vic 0x59#7) = .ok .vicRdIrqflag ∧ decodeWord (.vic 0x11#7) = .ok .vicWrCr1 ∧
  decodeWord (.vic 0x2E#7) = .ok (.vicWrSprcol 0x2E) ∧ decodeWord (.event 0#1) = .ok .clk ∧
  decodeWord (.event 1#1) = .ok .reset

/-- For every well-formed operation, with every operand at every value its rows admit, the decoder reads its encoded
word as that operation. (Derived from 30_encoding.md R141, 30_encoding.md R155, 30_encoding.md R156, 30_encoding.md
R157.) -/
def Obligations.DecodeOfEncode : Prop :=
  ∀ i : Instr, i.wellFormed = true → decodeWord (encode i) = .ok i

/-- Every word of every format decodes to a well-formed operation whose encoding is that word. (Derived from
30_encoding.md R158 (marked derived there), 30_encoding.md R141.) -/
def Obligations.EveryWordIsAnOperation : Prop :=
  ∀ c : CodeWord, ∃ i, decodeWord c = .ok i ∧ i.wellFormed = true ∧ encode i = c

/-- The BUS rows partition the 2^20 words, the CIA rows the 64 select words, the VIC rows the 128 and the EVENT rows the
two codes. (Derived from 30_encoding.md R141 (its partition is marked derived there), 30_encoding.md R158.) -/
def Obligations.ExactlyOneRowMatches : Prop :=
  (∀ w : BitVec 20, (busRows.filter (fun r => w &&& r.mask == r.val)).length = 1) ∧
  (∀ w : BitVec 6, (ciaRows.filter (fun r => w &&& r.mask == r.val)).length = 1) ∧
  (∀ w : BitVec 7, (vicRows.filter (fun r => w &&& r.mask == r.val)).length = 1) ∧
  (∀ w : BitVec 1, (eventRows.filter (fun r => w &&& r.mask == r.val)).length = 1)

/-- Every mode and address has a read target, a read word decodes to that target's operation, and a write word to the
operation that the write decode gives for it. (Derived from 20_memory.md R110, 20_memory.md R111, 20_memory.md R112
(marked derived there), 30_encoding.md R141.) -/
def Obligations.BusDecodeFollowsTargets : Prop :=
  ∀ (m : BitVec 3) (a : Addr), ∃ t, readTarget m a = some t ∧
    decodeWord (.bus (busWord true m a)) = .ok (readInstr t m a) ∧
    decodeWord (.bus (busWord false m a)) = .ok (writeInstr t m a)

/-- After a normal CLK the flags are BASIC = L and H, KERNAL = H, IO = C and (L or H), CHAR = not C and (L or H) of bits
0, 1, 2 of ram[$0001] at the start of the CLK; bits 3-7 have no part. The flags' function of the mode is R103 and
R104; that the mode is the one the CLK found is the inference that R352 marks as the spec's own. (Derived from
20_memory.md R103, 20_memory.md R104, 44_bus_arbiter.md R350, 44_bus_arbiter.md R352 (marked derived there).) -/
def Obligations.VisibilityFollowsMode : Prop :=
  ∀ s : State, Normal s → ∃ t, exec .clk s = .next t ∧
    t.vis.basic = ((s.ram.read 0x0001).getLsbD 0 && (s.ram.read 0x0001).getLsbD 1) ∧
    t.vis.kernal = (s.ram.read 0x0001).getLsbD 1 ∧
    t.vis.io = ((s.ram.read 0x0001).getLsbD 2 && ((s.ram.read 0x0001).getLsbD 0 || (s.ram.read 0x0001).getLsbD 1)) ∧
    t.vis.char = (!(s.ram.read 0x0001).getLsbD 2 && ((s.ram.read 0x0001).getLsbD 0 || (s.ram.read 0x0001).getLsbD 1))

/-- When the event code of the next call decodes to i, step is exec of i on the state with the call taken off and its
inputs presented; written out for a listed CLK, a listed RESET, and a call drawn free when none is listed. (Derived
from 00_scope.md R11, 30_encoding.md R145, 30_encoding.md R157, notes/assumptions log 4.) -/
def Obligations.StepRunsNextCall : Prop :=
  (∀ (s : State) (i : Instr), decodeWord (.event (eventCode (nextCall s))) = .ok i →
    step s = exec i (latchInputs (nextCall s) (takeCall s))) ∧
  (∀ (s : State) (inp : Inputs) (cs : List HostCall),
    step { s with calls := .clk inp :: cs } = exec .clk { s with calls := cs, inp := inp }) ∧
  (∀ (s : State) (cs : List HostCall), step { s with calls := .reset :: cs } = exec .reset { s with calls := cs }) ∧
  (∀ (s : State), s.calls = [] →
    step s =
      match Config.hostCall s.drawn with
      | .clk inp => exec .clk { s with drawn := s.drawn + 1, inp := inp }
      | .reset => exec .reset { s with drawn := s.drawn + 1 })

/-- When the BUS word of the CLK's bus tuple and of the mode port at its start decodes to i, the CLK is exec of i after
the ticks in order, then the outputs, with CIA2's signal as the NMI edge and RES de-asserted. (Derived from
44_bus_arbiter.md R350, 44_bus_arbiter.md R351, 44_bus_arbiter.md R352 (marked derived there), 44_bus_arbiter.md
R353.) -/
def Obligations.ClkRunsDecodedCycle : Prop :=
  ∀ (s : State) (i : Instr), Normal s →
    decodeWord (.bus (busWord s.inp.rw ((s.ram.read 0x0001).extractLsb' 0 3) s.inp.a)) = .ok i →
    ∃ t, exec i (recomputeVisibility (ciaClk .cia2 (ciaClk .cia1 (vicClk s)))) = .next t ∧
      exec .clk s = .next (emit (ciaSignal s.cia2) false t)

/-- For every state whose first RESET has come, CLK answers a next state; irq there is the wired OR of the two flag
bytes' bit 7, a SignalIRQ call is made exactly when it differs from the previous CLK's, and the host's calls, inputs
and draws are untouched. That every CLK completes is R350 and the section Hangs, the level and the call are R402;
calls and drawn (log 4), inp (log 5), irqSeen and the form of the call (log 6) and everReset (log 7) are the model's
own fields, and the clauses on them are the model's. (Derived from 60_exceptions.md R402, 44_bus_arbiter.md R350,
93_implementation_defined.md Hangs, notes/assumptions log 4, 5, 6, 7.) -/
def Obligations.ClkCompletesWithIrqLevel : Prop :=
  ∀ s : State, s.everReset = true → ∃ t, exec .clk s = .next t ∧
    t.out.irq = ((t.cia1.r.read 0xD#4).getLsbD 7 || (t.vic.r.read 0x19#6).getLsbD 7) ∧
    t.irqSeen = t.out.irq ∧
    (t.out.irq = s.irqSeen → t.out.signalIrq = none) ∧ (t.out.irq ≠ s.irqSeen → t.out.signalIrq = some t.out.irq) ∧
    t.inp = s.inp ∧ t.calls = s.calls ∧ t.drawn = s.drawn ∧ t.everReset = true

/-- While rst_left > 0 a CLK leaves RAM, both CIAs, the VIC, the framebuffer and the flags as they were, decrements
rst_left, drives no data, gives no NMI edge and no SID write; RES is asserted exactly while rst_left > RESET_SETTLE,
which are the first RESET_HOLD CLKs as RESET sets rst_left to RESET_HOLD + RESET_SETTLE; a normal CLK de-asserts it,
and in one with cycle 0 the VIC counts to 1 (to 0 of the next line, when a line is one CLK). (States R83, R452.) -/
def Obligations.HandshakeClkIgnoresTheBus : Prop :=
  (∀ s : State, s.everReset = true → 0 < s.rstLeft → ∃ t, exec .clk s = .next t ∧
    t.rstLeft = s.rstLeft - 1 ∧ t.out.dout = none ∧ t.out.sidWr = none ∧ t.out.nmiEdge = false ∧ t.out.signalNmi = [] ∧
    t.out.res = decide (Config.resetSettle < s.rstLeft) ∧
    { t with rstLeft := s.rstLeft, out := s.out, irqSeen := s.irqSeen } = s) ∧
  (∀ s : State, Normal s → ∃ t, exec .clk s = .next t ∧ t.out.res = false ∧ t.rstLeft = 0 ∧
    (s.vic.cycle = 0 → t.vic.cycle = 1 % Config.cyclesPerLine))

/-- In a state in which no RESET has come, CLK is refused by name. (Derived from 92_eei_decisions.md D55,
70_reset_and_hazards.md R451, notes/assumptions log 7.) -/
def Obligations.ClkBeforeFirstResetRefused : Prop :=
  ∀ s : State, s.everReset = false → exec .clk s = .refused .clkBeforeReset

/-- From every state, step does not fault; if it refuses, the refusal is that of a CLK before the first RESET and no
RESET has come. That refusal is the model's: R451 and D55 let a model refuse such a CLK, and this one does, by its
own field everReset (log 7). (Derived from 60_exceptions.md R400, 20_memory.md R112 (marked derived there),
20_memory.md R113, 93_implementation_defined.md Hangs, 70_reset_and_hazards.md R451, 92_eei_decisions.md D55,
notes/assumptions log 7.) -/
def Obligations.StepNeverFaults : Prop :=
  ∀ s : State, (∀ r, step s ≠ .fault r) ∧ (∀ r, step s = .refused r → r = .clkBeforeReset ∧ s.everReset = false)

/-- nmi_edge is true exactly when some CIA2 timer is running with counter 1 and its source is unmasked; it is then the
call pair SignalNMI(true), SignalNMI(false), and else no call is made; whether the ICR was read before has no part.
(States R404.) -/
def Obligations.NmiEdgeIsAnUnmaskedUnderflow : Prop :=
  ∀ s : State, Normal s → ∃ t, exec .clk s = .next t ∧
    (t.out.nmiEdge = true ↔
      ∃ x : TimerId, (s.cia2.r.read (timerCr x)).getLsbD 0 = true ∧ timerCounter x s.cia2 = 1#16 ∧
        (s.cia2.w.read 0xD#4).getLsbD (timerBit x) = true) ∧
    t.out.signalNmi = (if t.out.nmiEdge then [true, false] else [])

/-- If CIA1's flag bit 7 is set and a CLK does not read CIA1 register $0D, it is set after; if the VIC's is set and the
CLK does not access VIC register $19, it is set after; so the IRQ line stays asserted. (Derived from
60_exceptions.md R402, 60_exceptions.md R401, 60_exceptions.md R408 (marked derived there).) -/
def Obligations.IrqHeldUntilAcknowledged : Prop :=
  ∀ s t : State, exec .clk s = .next t →
    ((s.cia1.r.read 0xD#4).getLsbD 7 = true → ¬(Normal s ∧ readsCia s .cia1 0xD#4) →
      (t.cia1.r.read 0xD#4).getLsbD 7 = true ∧ t.out.irq = true) ∧
    ((s.vic.r.read 0x19#6).getLsbD 7 = true → ¬(Normal s ∧ accessesVic s 0x19#6) →
      (t.vic.r.read 0x19#6).getLsbD 7 = true ∧ t.out.irq = true)

/-- In a canonical RAM, after a CLK every byte is as before but the one a normal write CLK addresses, which holds D in
every mode; RESET changes no byte. (Derived from 20_memory.md R111, 10_state.md R42, 70_reset_and_hazards.md R450.) -/
def Obligations.OnlyBusWritesChangeRam : Prop :=
  (∀ s t : State, s.ram.wf ramSize = true → exec .clk s = .next t →
    (Normal s → s.inp.rw = false → t.ram.read s.inp.a.toNat = s.inp.d ∧
      ∀ b, b ≠ s.inp.a.toNat → t.ram.read b = s.ram.read b) ∧
    (¬(Normal s ∧ s.inp.rw = false) → t.ram = s.ram)) ∧
  (∀ s t : State, exec .reset s = .next t → t.ram = s.ram)

/-- Two CLKs from states that differ only in the pressed keys, the joystick and sid_read end in states that differ only
in these and in dout. (Derived from 20_memory.md R119, 00_scope.md R10, 41_cia_registers.md R191,
41_cia_registers.md R193, 44_bus_arbiter.md R364.) -/
def Obligations.LiveInputsReachOnlyTheDataBus : Prop :=
  ∀ (s t : State) (keys : List (Byte × Byte)) (joy : Option Joystick) (sid : Byte), exec .clk s = .next t →
    ∃ t', exec .clk { s with inp := { s.inp with keys := keys, joy := joy, sidRead := sid } } = .next t' ∧
      { t' with inp := t.inp, out := { t'.out with dout := t.out.dout } } = t

/-- From every state RESET answers a next state with every CIA and VIC register $00, cycle and scanline 0, every
framebuffer byte $00, the four flags false, rst_left = RESET_HOLD + RESET_SETTLE, both timers of both stopped with
counter and latch 0, and RAM unchanged. (States R86, R450.) -/
def Obligations.ResetLeavesTheResetValues : Prop :=
  ∀ s : State, ∃ t, exec .reset s = .next t ∧
    (∀ k i, (t.cia k).r.read i = 0x00#8 ∧ (t.cia k).w.read i = 0x00#8) ∧
    (∀ i, t.vic.r.read i = 0x00#8 ∧ t.vic.w.read i = 0x00#8) ∧ t.vic.cycle = 0 ∧ t.vic.line = 0#9 ∧
    (∀ j, t.fb.read j = 0x00#8) ∧
    t.vis.basic = false ∧ t.vis.kernal = false ∧ t.vis.io = false ∧ t.vis.char = false ∧
    t.rstLeft = Config.resetHold + Config.resetSettle ∧ t.ram = s.ram ∧
    (∀ k x, timerRunning x (t.cia k) = false ∧ timerCounter x (t.cia k) = 0#16 ∧ timerLatch x (t.cia k) = 0#16)

/-- RESET of the construction with RAM contents m is State.reset with m as its RAM; RESET of any state leaves the
outputs idle (model, log 6), has come (log 7), and keeps the latched inputs, the coming calls and the IRQ level last
signalled. (Derived from 92_eei_decisions.md D55, 92_eei_decisions.md D44, notes/assumptions log 1, 5, 6.) -/
def Obligations.ResetOfAConstruction : Prop :=
  (∀ m : Memory, exec .reset (State.construct m) = .next { State.reset with ram := m }) ∧
  (∀ s : State, ∃ t, exec .reset s = .next t ∧ t.out = Outputs.idle ∧ t.everReset = true ∧
    t.inp = s.inp ∧ t.calls = s.calls ∧ t.drawn = s.drawn ∧ t.irqSeen = s.irqSeen)

/-- BUS_RD_RAM, BUS_RD_COLOR and BUS_RD_IOEXP drive all 8 bits of ram[A]; the rest of the state is unchanged; a
well-formed one is what its read word decodes to. (States R360, R365, R366.) -/
def Obligations.BusReadsOfRam : Prop :=
  (∀ (m : BitVec 3) (a : Addr) (s : State),
    exec (.busRdRam m a) s = .next (drives (s.ram.read a.toNat) (undriven s)) ∧
    exec (.busRdColor m a) s = .next (drives (s.ram.read a.toNat) (undriven s)) ∧
    exec (.busRdIoexp m a) s = .next (drives (s.ram.read a.toNat) (undriven s))) ∧
  (∀ (m : BitVec 3) (a : Addr),
    (readTarget m a = some .ram → decodeWord (.bus (busWord true m a)) = .ok (.busRdRam m a)) ∧
    (readTarget m a = some .color → decodeWord (.bus (busWord true m a)) = .ok (.busRdColor m a)) ∧
    (readTarget m a = some .ioexp → decodeWord (.bus (busWord true m a)) = .ok (.busRdIoexp m a)))

/-- For an address in the ROM's region the byte driven is CHAR_ROM[A - $D000], BASIC_ROM[A - $A000], KERNAL_ROM[A -
$E000], and nothing else changes; the read word decodes to the operation where its target is that ROM. (States R367,
R368, R369.) -/
def Obligations.BusReadsOfRom : Prop :=
  ∀ (m : BitVec 3) (a : Addr) (s : State),
    (readTarget m a = some .char → decodeWord (.bus (busWord true m a)) = .ok (.busRdChar m a) ∧
      exec (.busRdChar m a) s = .next (drives (Config.charRom (BitVec.ofNat 12 (a.toNat - 0xD000))) (undriven s))) ∧
    (readTarget m a = some .basic → decodeWord (.bus (busWord true m a)) = .ok (.busRdBasic m a) ∧
      exec (.busRdBasic m a) s = .next (drives (Config.basicRom (BitVec.ofNat 13 (a.toNat - 0xA000))) (undriven s))) ∧
    (readTarget m a = some .kernal → decodeWord (.bus (busWord true m a)) = .ok (.busRdKernal m a) ∧
      exec (.busRdKernal m a) s = .next (drives (Config.kernalRom (BitVec.ofNat 13 (a.toNat - 0xE000))) (undriven s)))

/-- BUS_RD_SID drives the input sid_read, whatever it is; the rest of the state is unchanged; its read word decodes to
it where the target is the SID. (States R364.) -/
def Obligations.BusReadOfSid : Prop :=
  ∀ (m : BitVec 3) (a : Addr) (s : State),
    exec (.busRdSid m a) s = .next (drives s.inp.sidRead (undriven s)) ∧
    (readTarget m a = some .sid → decodeWord (.bus (busWord true m a)) = .ok (.busRdSid m a))

/-- For every address the byte driven is the live value at $11 and $12, $FF at $2F-$3F, else the stored byte; register
$19 becomes $00 exactly when it is the one read; nothing else changes; the read word decodes to the operation where
the target is the VIC. (States R363, R260.) -/
def Obligations.BusReadOfVic : Prop :=
  ∀ (m : BitVec 3) (a : Addr) (s : State),
    (readTarget m a = some .vic → decodeWord (.bus (busWord true m a)) = .ok (.busRdVic m a)) ∧
    ∃ t, exec (.busRdVic m a) s = .next t ∧
      t.out = { s.out with
        sidWr := none
        dout :=
          some
            (if a.toNat % 64 = 0x11 then
              (if 256 ≤ s.vic.line.toNat then s.vic.r.read 0x11#6 ||| 0x80#8 else s.vic.r.read 0x11#6 &&& 0x7F#8)
            else if a.toNat % 64 = 0x12 then BitVec.ofNat 8 s.vic.line.toNat
            else if 0x2F ≤ a.toNat % 64 then 0xFF#8
            else s.vic.r.read (BitVec.ofNat 6 a.toNat)) } ∧
      t.vic.r.read 0x19#6 = (if a.toNat % 64 = 0x19 then 0x00#8 else s.vic.r.read 0x19#6) ∧
      (∀ j, j ≠ 0x19#6 → t.vic.r.read j = s.vic.r.read j) ∧
      { t with vic := { t.vic with r := s.vic.r }, out := s.out } = s

/-- For every address the byte driven is JoyValue at index 0, KeyScan at 1, else the read view; register $0D of the read
view becomes $00 exactly when it is the one read; nothing else changes; the read word decodes to the operation where
the target is CIA1. (States R361.) -/
def Obligations.BusReadOfCia1 : Prop :=
  ∀ (m : BitVec 3) (a : Addr) (s : State),
    (readTarget m a = some .cia1 → decodeWord (.bus (busWord true m a)) = .ok (.busRdCia1 m a)) ∧
    ∃ t, exec (.busRdCia1 m a) s = .next t ∧
      t.out = { s.out with
        sidWr := none
        dout :=
          some
            (if a.toNat % 16 = 0 then joyValue Config.joyIdle s.inp.joy
            else if a.toNat % 16 = 1 then keyScan s.inp.keys (s.cia1.r.read 0x0#4)
            else s.cia1.r.read (BitVec.ofNat 4 a.toNat)) } ∧
      t.cia1.r.read 0xD#4 = (if a.toNat % 16 = 0xD then 0x00#8 else s.cia1.r.read 0xD#4) ∧
      (∀ j, j ≠ 0xD#4 → t.cia1.r.read j = s.cia1.r.read j) ∧ t.cia1.w = s.cia1.w ∧
      { t with cia1 := s.cia1, out := s.out } = s

/-- For every address the byte driven is the read view's register A & $0F; register $0D becomes $00 exactly when it is
the one read; nothing else changes; the read word decodes to the operation where the target is CIA2. (States R362.) -/
def Obligations.BusReadOfCia2 : Prop :=
  ∀ (m : BitVec 3) (a : Addr) (s : State),
    (readTarget m a = some .cia2 → decodeWord (.bus (busWord true m a)) = .ok (.busRdCia2 m a)) ∧
    ∃ t, exec (.busRdCia2 m a) s = .next t ∧
      t.out = { s.out with sidWr := none, dout := some (s.cia2.r.read (BitVec.ofNat 4 a.toNat)) } ∧
      t.cia2.r.read 0xD#4 = (if a.toNat % 16 = 0xD then 0x00#8 else s.cia2.r.read 0xD#4) ∧
      (∀ j, j ≠ 0xD#4 → t.cia2.r.read j = s.cia2.r.read j) ∧ t.cia2.w = s.cia2.w ∧
      { t with cia2 := s.cia2, out := s.out } = s

/-- BUS_WR_RAM, BUS_WR_COLOR and BUS_WR_IOEXP: in a canonical RAM, address A reads D after and every other address reads
as before; no byte is driven; the rest of the state is unchanged; the write word decodes to the operation where the
write decode gives it, under a visible ROM too. (States R370, R375, R376.) -/
def Obligations.BusWritesOfRam : Prop :=
  (∀ (m : BitVec 3) (a : Addr),
    (plainWrite m a = true → decodeWord (.bus (busWord false m a)) = .ok (.busWrRam m a)) ∧
    (readTarget m a = some .color → decodeWord (.bus (busWord false m a)) = .ok (.busWrColor m a)) ∧
    (readTarget m a = some .ioexp → decodeWord (.bus (busWord false m a)) = .ok (.busWrIoexp m a))) ∧
  (∀ (m : BitVec 3) (a : Addr) (s : State), s.ram.wf ramSize = true →
    ∀ i, i = .busWrRam m a ∨ i = .busWrColor m a ∨ i = .busWrIoexp m a →
      ∃ t, exec i s = .next t ∧ t.ram.read a.toNat = s.inp.d ∧
        (∀ b, b ≠ a.toNat → t.ram.read b = s.ram.read b) ∧
        t.out = { s.out with dout := none, sidWr := none } ∧ { t with ram := s.ram, out := s.out } = s)

/-- BUS_WR_SID: sid_wr is (A, D); in a canonical RAM, address A reads D after and every other address as before; nothing
else changes; the write word decodes to it where the target is the SID. (States R374.) -/
def Obligations.BusWriteOfSid : Prop :=
  ∀ (m : BitVec 3) (a : Addr) (s : State),
    (readTarget m a = some .sid → decodeWord (.bus (busWord false m a)) = .ok (.busWrSid m a)) ∧
    (s.ram.wf ramSize = true →
      ∃ t, exec (.busWrSid m a) s = .next t ∧ t.out = { s.out with dout := none, sidWr := some (a, s.inp.d) } ∧
        t.ram.read a.toNat = s.inp.d ∧ (∀ b, b ≠ a.toNat → t.ram.read b = s.ram.read b) ∧
        { t with ram := s.ram, out := s.out } = s)

/-- When the VIC select word of the direction and A & $3F decodes to i, the bus read is exec of i on the cycle's start,
and the bus write is exec of i after D is stored in RAM; both complete. (Derived from 44_bus_arbiter.md R363,
44_bus_arbiter.md R373, 30_encoding.md R142, 30_encoding.md R144.) -/
def Obligations.BusAccessOfVicRunsItsRow : Prop :=
  ∀ (m : BitVec 3) (a : Addr) (s : State) (i : Instr),
    (decodeWord (.vic (vicWord true (BitVec.ofNat 6 a.toNat))) = .ok i →
      ∃ t, exec (.busRdVic m a) s = .next t ∧ exec i (undriven s) = .next t) ∧
    (decodeWord (.vic (vicWord false (BitVec.ofNat 6 a.toNat))) = .ok i →
      ∃ t, exec (.busWrVic m a) s = .next t ∧ exec i (written a s) = .next t)

/-- When the CIA select word of the instance, the direction and A & $0F decodes to i, the bus read is exec of i on the
cycle's start, and the bus write is exec of i after D is stored in RAM; all complete. (Derived from
44_bus_arbiter.md R361, 44_bus_arbiter.md R362, 44_bus_arbiter.md R371, 44_bus_arbiter.md R372, 30_encoding.md R142,
30_encoding.md R143.) -/
def Obligations.BusAccessOfCiaRunsItsRow : Prop :=
  ∀ (m : BitVec 3) (a : Addr) (s : State) (i : Instr),
    (decodeWord (.cia (ciaWord .cia1 true (BitVec.ofNat 4 a.toNat))) = .ok i →
      ∃ t, exec (.busRdCia1 m a) s = .next t ∧ exec i (undriven s) = .next t) ∧
    (decodeWord (.cia (ciaWord .cia2 true (BitVec.ofNat 4 a.toNat))) = .ok i →
      ∃ t, exec (.busRdCia2 m a) s = .next t ∧ exec i (undriven s) = .next t) ∧
    (decodeWord (.cia (ciaWord .cia1 false (BitVec.ofNat 4 a.toNat))) = .ok i →
      ∃ t, exec (.busWrCia1 m a) s = .next t ∧ exec i (written a s) = .next t) ∧
    (decodeWord (.cia (ciaWord .cia2 false (BitVec.ofNat 4 a.toNat))) = .ok i →
      ∃ t, exec (.busWrCia2 m a) s = .next t ∧ exec i (written a s) = .next t)

/-- In a canonical RAM, address A reads D after and every other address as before; only the addressed device's registers
can differ, a CIA write never changes the CIA's flags, VIC indices $2F-$3F change no register; the write word
decodes to the operation where the target is the device. (States R371, R372, R373.) -/
def Obligations.DeviceWritesStoreRamAndTheirDevice : Prop :=
  ∀ (m : BitVec 3) (a : Addr) (s : State), s.ram.wf ramSize = true →
    (∃ t, exec (.busWrCia1 m a) s = .next t ∧
      (readTarget m a = some .cia1 → decodeWord (.bus (busWord false m a)) = .ok (.busWrCia1 m a)) ∧
      (∀ i, decodeWord (.cia (ciaWord .cia1 false (BitVec.ofNat 4 a.toNat))) = .ok i → exec i (written a s) = .next t) ∧
      t.ram.read a.toNat = s.inp.d ∧ (∀ b, b ≠ a.toNat → t.ram.read b = s.ram.read b) ∧
      t.cia1.r.read 0xD#4 = s.cia1.r.read 0xD#4 ∧ t.out = { s.out with dout := none, sidWr := none } ∧
      { t with ram := s.ram, cia1 := s.cia1, out := s.out } = s) ∧
    (∃ t, exec (.busWrCia2 m a) s = .next t ∧
      (readTarget m a = some .cia2 → decodeWord (.bus (busWord false m a)) = .ok (.busWrCia2 m a)) ∧
      (∀ i, decodeWord (.cia (ciaWord .cia2 false (BitVec.ofNat 4 a.toNat))) = .ok i → exec i (written a s) = .next t) ∧
      t.ram.read a.toNat = s.inp.d ∧ (∀ b, b ≠ a.toNat → t.ram.read b = s.ram.read b) ∧
      t.cia2.r.read 0xD#4 = s.cia2.r.read 0xD#4 ∧ t.out = { s.out with dout := none, sidWr := none } ∧
      { t with ram := s.ram, cia2 := s.cia2, out := s.out } = s) ∧
    (∃ t, exec (.busWrVic m a) s = .next t ∧
      (readTarget m a = some .vic → decodeWord (.bus (busWord false m a)) = .ok (.busWrVic m a)) ∧
      (∀ i, decodeWord (.vic (vicWord false (BitVec.ofNat 6 a.toNat))) = .ok i → exec i (written a s) = .next t) ∧
      t.ram.read a.toNat = s.inp.d ∧ (∀ b, b ≠ a.toNat → t.ram.read b = s.ram.read b) ∧
      (0x2F ≤ a.toNat % 64 → t.vic = s.vic) ∧ t.out = { s.out with dout := none, sidWr := none } ∧
      { t with ram := s.ram, vic := { t.vic with r := s.vic.r, w := s.vic.w }, out := s.out } = s)

/-- CIA2 port A and port B, and DDRA, DDRB, TOD10, TODSEC, TODMIN, TODHR, SDR of either CIA: the select word decodes to
the read, the read view's byte is driven, nothing else changes. (States R196, R197, R198, R199, R204, R205, R206,
R207, R208.) -/
def Obligations.CiaPlainReads : Prop :=
  (decodeWord (.cia 0x30#6) = .ok .cia2RdPra ∧ decodeWord (.cia 0x31#6) = .ok .cia2RdPrb) ∧
  (∀ k : CiaId,
    decodeWord (.cia (ciaWord k true 0x2#4)) = .ok (.ciaRdDdra k) ∧
    decodeWord (.cia (ciaWord k true 0x3#4)) = .ok (.ciaRdDdrb k) ∧
    decodeWord (.cia (ciaWord k true 0x8#4)) = .ok (.ciaRdTod10 k) ∧
    decodeWord (.cia (ciaWord k true 0x9#4)) = .ok (.ciaRdTodsec k) ∧
    decodeWord (.cia (ciaWord k true 0xA#4)) = .ok (.ciaRdTodmin k) ∧
    decodeWord (.cia (ciaWord k true 0xB#4)) = .ok (.ciaRdTodhr k) ∧
    decodeWord (.cia (ciaWord k true 0xC#4)) = .ok (.ciaRdSdr k)) ∧
  ∀ (k : CiaId) (s : State),
    exec .cia2RdPra s = .next (drives (s.cia2.r.read 0x0#4) s) ∧
    exec .cia2RdPrb s = .next (drives (s.cia2.r.read 0x1#4) s) ∧
    exec (.ciaRdDdra k) s = .next (drives ((s.cia k).r.read 0x2#4) s) ∧
    exec (.ciaRdDdrb k) s = .next (drives ((s.cia k).r.read 0x3#4) s) ∧
    exec (.ciaRdTod10 k) s = .next (drives ((s.cia k).r.read 0x8#4) s) ∧
    exec (.ciaRdTodsec k) s = .next (drives ((s.cia k).r.read 0x9#4) s) ∧
    exec (.ciaRdTodmin k) s = .next (drives ((s.cia k).r.read 0xA#4) s) ∧
    exec (.ciaRdTodhr k) s = .next (drives ((s.cia k).r.read 0xB#4) s) ∧
    exec (.ciaRdSdr k) s = .next (drives ((s.cia k).r.read 0xC#4) s)

/-- TALO, TAHI, TBLO, TBHI drive the low or high byte of the live counter of timer A or B, CRA and CRB the control byte;
the select word decodes to the read; nothing else changes, and the latches have no part. (States R200, R201, R202,
R203, R210, R211.) -/
def Obligations.CiaTimerReads : Prop :=
  (∀ k : CiaId,
    decodeWord (.cia (ciaWord k true 0x4#4)) = .ok (.ciaRdTalo k) ∧
    decodeWord (.cia (ciaWord k true 0x5#4)) = .ok (.ciaRdTahi k) ∧
    decodeWord (.cia (ciaWord k true 0x6#4)) = .ok (.ciaRdTblo k) ∧
    decodeWord (.cia (ciaWord k true 0x7#4)) = .ok (.ciaRdTbhi k) ∧
    decodeWord (.cia (ciaWord k true 0xE#4)) = .ok (.ciaRdCra k) ∧
    decodeWord (.cia (ciaWord k true 0xF#4)) = .ok (.ciaRdCrb k)) ∧
  ∀ (k : CiaId) (s : State),
    exec (.ciaRdTalo k) s = .next (drives ((timerCounter .a (s.cia k)).extractLsb' 0 8) s) ∧
    exec (.ciaRdTahi k) s = .next (drives ((timerCounter .a (s.cia k)).extractLsb' 8 8) s) ∧
    exec (.ciaRdTblo k) s = .next (drives ((timerCounter .b (s.cia k)).extractLsb' 0 8) s) ∧
    exec (.ciaRdTbhi k) s = .next (drives ((timerCounter .b (s.cia k)).extractLsb' 8 8) s) ∧
    exec (.ciaRdCra k) s = .next (drives ((s.cia k).r.read 0xE#4) s) ∧
    exec (.ciaRdCrb k) s = .next (drives ((s.cia k).r.read 0xF#4) s)

/-- With no joystick the byte is JOY_IDLE, $7F or $FF; with one, bits 0-4 are 1 exactly when up, down, left, right, fire
is not held and bits 5-7 are JOY_IDLE's; nothing else changes, and its select word 0x10 decodes to it. (States R191,
R192.) -/
def Obligations.JoystickPortRead : Prop :=
  decodeWord (.cia 0x10#6) = .ok .cia1RdPra ∧ (Config.joyIdle = 0x7F#8 ∨ Config.joyIdle = 0xFF#8) ∧
  ∀ s : State, ∃ v, exec .cia1RdPra s = .next (drives v s) ∧ (s.inp.joy = none → v = Config.joyIdle) ∧
    ∀ j, s.inp.joy = some j →
      v.getLsbD 0 = !j.up ∧ v.getLsbD 1 = !j.down ∧ v.getLsbD 2 = !j.left ∧ v.getLsbD 3 = !j.right ∧
      v.getLsbD 4 = !j.fire ∧
      v.getLsbD 5 = Config.joyIdle.getLsbD 5 ∧ v.getLsbD 6 = Config.joyIdle.getLsbD 6 ∧
      v.getLsbD 7 = Config.joyIdle.getLsbD 7

/-- With select $00 and some key pressed the byte is $20; else each bit is 1 exactly when it is 1 in the column byte of
every pressed key whose row byte shares a cleared bit with the select byte of port A, so $FF when none does; nothing
else changes, and its select word 0x11 decodes to it. (States R193, R194, R195.) -/
def Obligations.KeyboardPortRead : Prop :=
  decodeWord (.cia 0x11#6) = .ok .cia1RdPrb ∧
  ∀ s : State, ∃ v, exec .cia1RdPrb s = .next (drives v s) ∧
    (s.cia1.r.read 0x0#4 = 0x00#8 ∧ s.inp.keys ≠ [] → v = 0x20#8) ∧
    (¬(s.cia1.r.read 0x0#4 = 0x00#8 ∧ s.inp.keys ≠ []) →
      ∀ b, b < 8 →
        (v.getLsbD b = true ↔
          ∀ key ∈ s.inp.keys, key.1 ||| s.cia1.r.read 0x0#4 ≠ 0xFF#8 → key.2.getLsbD b = true))

/-- CIA_RD_ICR drives the read view's register $0D, which is $00 after; every other register in both views and the rest
of the state are unchanged, so a second read drives $00; its select word decodes to it. (States R209.) -/
def Obligations.IcrReadClears : Prop :=
  (∀ k : CiaId, decodeWord (.cia (ciaWord k true 0xD#4)) = .ok (.ciaRdIcr k)) ∧
  ∀ (k : CiaId) (s : State), ∃ t, exec (.ciaRdIcr k) s = .next t ∧
    t.out = { s.out with dout := some ((s.cia k).r.read 0xD#4) } ∧
    (∀ j, (t.cia k).r.read j = if j = 0xD#4 then 0x00#8 else (s.cia k).r.read j) ∧ (t.cia k).w = (s.cia k).w ∧
    { t.setCia k (s.cia k) with out := s.out } = s ∧
    ∃ u, exec (.ciaRdIcr k) t = .next u ∧ u.out.dout = some 0x00#8

/-- PRA, PRB, DDRA, DDRB, TOD10, TODSEC, TODMIN, TODHR, SDR of either CIA: register i of both views is D after, every
other register and the rest of the state are unchanged; the select word decodes to the write. (States R216, R217,
R218, R219, R224, R225, R226, R227, R228.) -/
def Obligations.CiaPlainWrites : Prop :=
  (∀ k : CiaId,
    decodeWord (.cia (ciaWord k false 0x0#4)) = .ok (.ciaWrPra k) ∧
    decodeWord (.cia (ciaWord k false 0x1#4)) = .ok (.ciaWrPrb k) ∧
    decodeWord (.cia (ciaWord k false 0x2#4)) = .ok (.ciaWrDdra k) ∧
    decodeWord (.cia (ciaWord k false 0x3#4)) = .ok (.ciaWrDdrb k) ∧
    decodeWord (.cia (ciaWord k false 0x8#4)) = .ok (.ciaWrTod10 k) ∧
    decodeWord (.cia (ciaWord k false 0x9#4)) = .ok (.ciaWrTodsec k) ∧
    decodeWord (.cia (ciaWord k false 0xA#4)) = .ok (.ciaWrTodmin k) ∧
    decodeWord (.cia (ciaWord k false 0xB#4)) = .ok (.ciaWrTodhr k) ∧
    decodeWord (.cia (ciaWord k false 0xC#4)) = .ok (.ciaWrSdr k)) ∧
  ∀ (k : CiaId) (s : State) (i : Instr) (x : BitVec 4),
    ((i = .ciaWrPra k ∧ x = 0x0#4) ∨
      (i = .ciaWrPrb k ∧ x = 0x1#4) ∨
      (i = .ciaWrDdra k ∧ x = 0x2#4) ∨
      (i = .ciaWrDdrb k ∧ x = 0x3#4) ∨
      (i = .ciaWrTod10 k ∧ x = 0x8#4) ∨
      (i = .ciaWrTodsec k ∧ x = 0x9#4) ∨
      (i = .ciaWrTodmin k ∧ x = 0xA#4) ∨
      (i = .ciaWrTodhr k ∧ x = 0xB#4) ∨
      (i = .ciaWrSdr k ∧ x = 0xC#4)) →
    ∃ t, exec i s = .next t ∧
      (∀ j, (t.cia k).r.read j = if j = x then s.inp.d else (s.cia k).r.read j) ∧
      (∀ j, (t.cia k).w.read j = if j = x then s.inp.d else (s.cia k).w.read j) ∧ t.setCia k (s.cia k) = s

/-- CIA_WR_TALO and CIA_WR_TBLO: the write view's register 4 or 6 is D after; the read view, every other register and
the rest of the state are unchanged; the select word decodes to the write. (States R220, R222.) -/
def Obligations.TimerLowByteWrites : Prop :=
  (∀ k : CiaId,
    decodeWord (.cia (ciaWord k false 0x4#4)) = .ok (.ciaWrTalo k) ∧
    decodeWord (.cia (ciaWord k false 0x6#4)) = .ok (.ciaWrTblo k)) ∧
  ∀ (k : CiaId) (s : State),
    (∃ t, exec (.ciaWrTalo k) s = .next t ∧ (t.cia k).r = (s.cia k).r ∧
      (∀ j, (t.cia k).w.read j = if j = 0x4#4 then s.inp.d else (s.cia k).w.read j) ∧ t.setCia k (s.cia k) = s) ∧
    (∃ t, exec (.ciaWrTblo k) s = .next t ∧ (t.cia k).r = (s.cia k).r ∧
      (∀ j, (t.cia k).w.read j = if j = 0x6#4 then s.inp.d else (s.cia k).w.read j) ∧ t.setCia k (s.cia k) = s)

/-- CIA_WR_TAHI and CIA_WR_TBHI: the latch's high byte is D; with the start bit 0 the counter is the latch's low byte
and D, with it 1 the read view is unchanged; nothing else changes; the select word decodes to the write. (States
R221, R223.) -/
def Obligations.TimerHighByteWrites : Prop :=
  (∀ k : CiaId,
    decodeWord (.cia (ciaWord k false 0x5#4)) = .ok (.ciaWrTahi k) ∧
    decodeWord (.cia (ciaWord k false 0x7#4)) = .ok (.ciaWrTbhi k)) ∧
  ∀ (k : CiaId) (s : State),
    (∃ t, exec (.ciaWrTahi k) s = .next t ∧
      (∀ j, (t.cia k).w.read j = if j = 0x5#4 then s.inp.d else (s.cia k).w.read j) ∧
      (((s.cia k).r.read 0xE#4).getLsbD 0 = true → (t.cia k).r = (s.cia k).r) ∧
      (((s.cia k).r.read 0xE#4).getLsbD 0 = false →
        ∀ j, (t.cia k).r.read j =
          if j = 0x4#4 then (s.cia k).w.read 0x4#4 else if j = 0x5#4 then s.inp.d else (s.cia k).r.read j) ∧
      t.setCia k (s.cia k) = s) ∧
    (∃ t, exec (.ciaWrTbhi k) s = .next t ∧
      (∀ j, (t.cia k).w.read j = if j = 0x7#4 then s.inp.d else (s.cia k).w.read j) ∧
      (((s.cia k).r.read 0xF#4).getLsbD 0 = true → (t.cia k).r = (s.cia k).r) ∧
      (((s.cia k).r.read 0xF#4).getLsbD 0 = false →
        ∀ j, (t.cia k).r.read j =
          if j = 0x6#4 then (s.cia k).w.read 0x6#4 else if j = 0x7#4 then s.inp.d else (s.cia k).r.read j) ∧
      t.setCia k (s.cia k) = s)

/-- CIA_WR_ICR: mask bit b < 5 is old or D[b] when D[7] = 1 and old and not D[b] when D[7] = 0; bits 5-7 are as before;
every other register in both views and the rest of the state are unchanged; the select word decodes to the write.
(States R229.) -/
def Obligations.IcrMaskWrite : Prop :=
  (∀ k : CiaId, decodeWord (.cia (ciaWord k false 0xD#4)) = .ok (.ciaWrIcr k)) ∧
  ∀ (k : CiaId) (s : State), ∃ t, exec (.ciaWrIcr k) s = .next t ∧
    (∀ b, b < 8 →
      ((t.cia k).w.read 0xD#4).getLsbD b =
        if b < 5 then
          (if s.inp.d.getLsbD 7 then ((s.cia k).w.read 0xD#4).getLsbD b || s.inp.d.getLsbD b
          else ((s.cia k).w.read 0xD#4).getLsbD b && !s.inp.d.getLsbD b)
        else ((s.cia k).w.read 0xD#4).getLsbD b) ∧
    (∀ j, j ≠ 0xD#4 → (t.cia k).w.read j = (s.cia k).w.read j) ∧ (t.cia k).r = (s.cia k).r ∧ t.setCia k (s.cia k) = s

/-- CIA_WR_CRA and CIA_WR_CRB: the control register is D in both views; with D[4] = 1 the counter's two bytes are the
latch's, whether the timer runs or not; nothing else changes; the select word decodes to the write. (States R230,
R231.) -/
def Obligations.TimerControlWrites : Prop :=
  (∀ k : CiaId,
    decodeWord (.cia (ciaWord k false 0xE#4)) = .ok (.ciaWrCra k) ∧
    decodeWord (.cia (ciaWord k false 0xF#4)) = .ok (.ciaWrCrb k)) ∧
  ∀ (k : CiaId) (s : State),
    (∃ t, exec (.ciaWrCra k) s = .next t ∧
      (∀ j, (t.cia k).w.read j = if j = 0xE#4 then s.inp.d else (s.cia k).w.read j) ∧
      (∀ j, (t.cia k).r.read j =
        if j = 0xE#4 then s.inp.d
        else if s.inp.d.getLsbD 4 = true ∧ (j = 0x4#4 ∨ j = 0x5#4) then (s.cia k).w.read j
        else (s.cia k).r.read j) ∧
      t.setCia k (s.cia k) = s) ∧
    (∃ t, exec (.ciaWrCrb k) s = .next t ∧
      (∀ j, (t.cia k).w.read j = if j = 0xF#4 then s.inp.d else (s.cia k).w.read j) ∧
      (∀ j, (t.cia k).r.read j =
        if j = 0xF#4 then s.inp.d
        else if s.inp.d.getLsbD 4 = true ∧ (j = 0x6#4 ∨ j = 0x7#4) then (s.cia k).w.read j
        else (s.cia k).r.read j) ∧
      t.setCia k (s.cia k) = s)

/-- With START 0 nothing changes. With START 1 the counter is decremented modulo 65536; if that is not zero nothing else
changes and nothing is signalled; if it is zero, the flag and bit 7 are set and the signal is given exactly when the
source is unmasked, and the timer stops at 0 with START cleared in both views when RUNMODE is 1, else reloads both
latch bytes. (States R170, R171.) -/
def Obligations.TimerTickCases : Prop :=
  (timerLo .a = 0x4#4 ∧ timerHi .a = 0x5#4 ∧ timerCr .a = 0xE#4 ∧ timerBit .a = 0) ∧
  (timerLo .b = 0x6#4 ∧ timerHi .b = 0x7#4 ∧ timerCr .b = 0xF#4 ∧ timerBit .b = 1) ∧
  ∀ (x : TimerId) (c : Cia),
    ((c.r.read (timerCr x)).getLsbD 0 = false → timerTick x c = c ∧ timerSignal x c = false) ∧
    ((c.r.read (timerCr x)).getLsbD 0 = true →
      (timerCounter x c ≠ 1#16 →
        timerCounter x (timerTick x c) = timerCounter x c - 1#16 ∧ timerSignal x c = false ∧
        (∀ j, j ≠ timerLo x → j ≠ timerHi x → (timerTick x c).r.read j = c.r.read j) ∧ (timerTick x c).w = c.w) ∧
      (timerCounter x c = 1#16 →
        timerSignal x c = (c.w.read 0xD#4).getLsbD (timerBit x) ∧
        (timerTick x c).r.read 0xD#4 =
          (if (c.w.read 0xD#4).getLsbD (timerBit x) then c.r.read 0xD#4 ||| BitVec.ofNat 8 (2 ^ timerBit x) ||| 0x80#8
          else c.r.read 0xD#4) ∧
        ((c.r.read (timerCr x)).getLsbD 3 = true →
          timerCounter x (timerTick x c) = 0#16 ∧
          (timerTick x c).r.read (timerCr x) = c.r.read (timerCr x) &&& 0xFE#8 ∧
          (timerTick x c).w.read (timerCr x) = c.w.read (timerCr x) &&& 0xFE#8) ∧
        ((c.r.read (timerCr x)).getLsbD 3 = false →
          timerCounter x (timerTick x c) = timerLatch x c ∧
          (timerTick x c).r.read (timerCr x) = c.r.read (timerCr x) ∧
          (timerTick x c).w.read (timerCr x) = c.w.read (timerCr x)) ∧
        (∀ j, j ≠ timerLo x → j ≠ timerHi x → j ≠ timerCr x → j ≠ 0xD#4 → (timerTick x c).r.read j = c.r.read j) ∧
        (∀ j, j ≠ timerCr x → (timerTick x c).w.read j = c.w.read j)))

/-- From a running timer whose counter is N ≥ 1, after n < N ticks the counter is N - n and the flags are as at the
start, and the next tick is the underflow exactly when it is the N-th; with the source unmasked the flag bit and bit
7 are set after it. (Derived from 40_timer_unit.md R172 (marked derived there), 95_test_vectors.md X1.) -/
def Obligations.TimerCountLaw : Prop :=
  ∀ (x : TimerId) (c : Cia), timerRunning x c = true → timerCounter x c ≠ 0#16 →
    (∀ n, n < (timerCounter x c).toNat →
      (timerCounter x ((timerTick x)^[n] c)).toNat = (timerCounter x c).toNat - n ∧
      ((timerTick x)^[n] c).r.read 0xD#4 = c.r.read 0xD#4 ∧
      reachesZero x ((timerTick x)^[n] c) = decide (n + 1 = (timerCounter x c).toNat)) ∧
    ((c.w.read 0xD#4).getLsbD (timerBit x) = true →
      (((timerTick x)^[(timerCounter x c).toNat] c).r.read 0xD#4).getLsbD (timerBit x) = true ∧
      (((timerTick x)^[(timerCounter x c).toNat] c).r.read 0xD#4).getLsbD 7 = true)

/-- From a running timer with counter 0, the first tick gives $FFFF and sets no flag, and of the first 65536 ticks only
the last is an underflow. (States R176.) -/
def Obligations.ZeroCountLasts65536Ticks : Prop :=
  ∀ (x : TimerId) (c : Cia), timerRunning x c = true → timerCounter x c = 0#16 →
    timerCounter x (timerTick x c) = 0xFFFF#16 ∧ (timerTick x c).r.read 0xD#4 = c.r.read 0xD#4 ∧
    ∀ n, n < 65536 → reachesZero x ((timerTick x)^[n] c) = decide (n = 65535)

/-- After CIA_CLK each timer's counter, latch and control register are as after its own tick alone, the flags are the OR
of the two ticks', the result is true when either signalled, and the rest of the state is unchanged. (Derived from
41_cia_registers.md R240, 40_timer_unit.md R177 (the order is marked derived there).) -/
def Obligations.CiaClockTicksBothTimers : Prop :=
  (∀ (c : Cia) (x : TimerId),
    timerCounter x (ciaTick c) = timerCounter x (timerTick x c) ∧ timerLatch x (ciaTick c) = timerLatch x c ∧
    (ciaTick c).r.read (timerCr x) = (timerTick x c).r.read (timerCr x) ∧
    (ciaTick c).w.read (timerCr x) = (timerTick x c).w.read (timerCr x)) ∧
  (∀ c : Cia, (ciaTick c).r.read 0xD#4 = (timerTick .a c).r.read 0xD#4 ||| (timerTick .b c).r.read 0xD#4 ∧
    ciaTick c = timerTick .a (timerTick .b c) ∧
    ciaSignal c = (timerSignal .a c || timerSignal .b c)) ∧
  (∀ (k : CiaId) (s : State), (ciaClk k s).cia k = ciaTick (s.cia k) ∧ (ciaClk k s).setCia k (s.cia k) = s)

/-- SPRPOS, LP, SPREN, CR2, SPRYEX, MEMPTR, IRQMASK, SPRMISC, COLL, BORDER, BG, SPRCOL: the select word of every index
of the group decodes to the read, all 8 bits of the read-visible register are driven, and nothing else changes.
(States R262, R265, R266, R267, R268, R269, R271, R272, R273, R274, R275, R276.) -/
def Obligations.VicPlainReads : Prop :=
  (
    (∀ i : BitVec 6, 0x00 ≤ i.toNat → i.toNat ≤ 0x10 → decodeWord (.vic (vicWord true i)) = .ok (.vicRdSprpos i)) ∧
    (∀ i : BitVec 6, 0x13 ≤ i.toNat → i.toNat ≤ 0x14 → decodeWord (.vic (vicWord true i)) = .ok (.vicRdLp i)) ∧
    decodeWord (.vic (vicWord true 0x15#6)) = .ok .vicRdSpren ∧
    decodeWord (.vic (vicWord true 0x16#6)) = .ok .vicRdCr2 ∧
    decodeWord (.vic (vicWord true 0x17#6)) = .ok .vicRdSpryex ∧
    decodeWord (.vic (vicWord true 0x18#6)) = .ok .vicRdMemptr ∧
    decodeWord (.vic (vicWord true 0x1A#6)) = .ok .vicRdIrqmask ∧
    (∀ i : BitVec 6, 0x1B ≤ i.toNat → i.toNat ≤ 0x1D → decodeWord (.vic (vicWord true i)) = .ok (.vicRdSprmisc i)) ∧
    (∀ i : BitVec 6, 0x1E ≤ i.toNat → i.toNat ≤ 0x1F → decodeWord (.vic (vicWord true i)) = .ok (.vicRdColl i)) ∧
    decodeWord (.vic (vicWord true 0x20#6)) = .ok .vicRdBorder ∧
    (∀ i : BitVec 6, 0x21 ≤ i.toNat → i.toNat ≤ 0x24 → decodeWord (.vic (vicWord true i)) = .ok (.vicRdBg i)) ∧
    (∀ i : BitVec 6, 0x25 ≤ i.toNat → i.toNat ≤ 0x2E → decodeWord (.vic (vicWord true i)) = .ok (.vicRdSprcol i))) ∧
  ∀ (i : BitVec 6) (s : State),
    exec (.vicRdSprpos i) s = .next (drives (s.vic.r.read i) s) ∧
    exec (.vicRdLp i) s = .next (drives (s.vic.r.read i) s) ∧
    exec .vicRdSpren s = .next (drives (s.vic.r.read 0x15#6) s) ∧
    exec .vicRdCr2 s = .next (drives (s.vic.r.read 0x16#6) s) ∧
    exec .vicRdSpryex s = .next (drives (s.vic.r.read 0x17#6) s) ∧
    exec .vicRdMemptr s = .next (drives (s.vic.r.read 0x18#6) s) ∧
    exec .vicRdIrqmask s = .next (drives (s.vic.r.read 0x1A#6) s) ∧
    exec (.vicRdSprmisc i) s = .next (drives (s.vic.r.read i) s) ∧
    exec (.vicRdColl i) s = .next (drives (s.vic.r.read i) s) ∧
    exec .vicRdBorder s = .next (drives (s.vic.r.read 0x20#6) s) ∧
    exec (.vicRdBg i) s = .next (drives (s.vic.r.read i) s) ∧
    exec (.vicRdSprcol i) s = .next (drives (s.vic.r.read i) s)

/-- VIC_RD_CR1 drives bits 6:0 of vic.r[$11] with bit 8 of the scanline in bit 7; VIC_RD_RASTER drives the scanline's
low byte; nothing else changes and the compare latches have no part; the select words decode to them. (States R263,
R264.) -/
def Obligations.VicLiveRasterReads : Prop :=
  decodeWord (.vic 0x51#7) = .ok .vicRdCr1 ∧ decodeWord (.vic 0x52#7) = .ok .vicRdRaster ∧
  ∀ s : State,
    (∃ v, exec .vicRdCr1 s = .next (drives v s) ∧ v.getLsbD 7 = s.vic.line.getLsbD 8 ∧
      ∀ b, b < 7 → v.getLsbD b = (s.vic.r.read 0x11#6).getLsbD b) ∧
    (∃ v, exec .vicRdRaster s = .next (drives v s) ∧ v.toNat = s.vic.line.toNat % 256)

/-- VIC_RD_IRQFLAG drives vic.r[$19], which is $00 after; every other register and the rest of the state are unchanged,
so the IRQ line is CIA1's flag alone; its select word 0x59 decodes to it. (States R270.) -/
def Obligations.VicFlagReadAcknowledges : Prop :=
  decodeWord (.vic 0x59#7) = .ok .vicRdIrqflag ∧
  ∀ s : State, ∃ t, exec .vicRdIrqflag s = .next t ∧ t.out = { s.out with dout := some (s.vic.r.read 0x19#6) } ∧
    (∀ j, t.vic.r.read j = if j = 0x19#6 then 0x00#8 else s.vic.r.read j) ∧
    irqLine t = (s.cia1.r.read 0xD#4).getLsbD 7 ∧
    { t with vic := { t.vic with r := s.vic.r }, out := s.out } = s

/-- For every index $2F to $3F the select words decode to VIC_RD_UNUSED and VIC_WR_UNUSED; the read drives $FF and
changes nothing else, the write changes no state. (States R277, R295.) -/
def Obligations.VicUnusedIndices : Prop :=
  (∀ i : BitVec 6, 0x2F ≤ i.toNat →
    decodeWord (.vic (vicWord true i)) = .ok (.vicRdUnused i) ∧ decodeWord (.vic (vicWord false i)) = .ok (.vicWrUnused i)) ∧
  (∀ (i : BitVec 6) (s : State), exec (.vicRdUnused i) s = .next (drives 0xFF#8 s) ∧ exec (.vicWrUnused i) s = .next s)

/-- SPRPOS, LP, SPREN, CR2, SPRYEX, MEMPTR, IRQMASK, SPRMISC, COLL, BORDER, BG, SPRCOL: the select word of every index
of the group decodes to the write; that register of the read-visible set is D after, every other register, the latch
set and the rest of the state are unchanged. (States R280, R283, R284, R285, R286, R287, R289, R290, R291, R292,
R293, R294.) -/
def Obligations.VicPlainWrites : Prop :=
  (
    (∀ i : BitVec 6, 0x00 ≤ i.toNat → i.toNat ≤ 0x10 → decodeWord (.vic (vicWord false i)) = .ok (.vicWrSprpos i)) ∧
    (∀ i : BitVec 6, 0x13 ≤ i.toNat → i.toNat ≤ 0x14 → decodeWord (.vic (vicWord false i)) = .ok (.vicWrLp i)) ∧
    decodeWord (.vic (vicWord false 0x15#6)) = .ok .vicWrSpren ∧
    decodeWord (.vic (vicWord false 0x16#6)) = .ok .vicWrCr2 ∧
    decodeWord (.vic (vicWord false 0x17#6)) = .ok .vicWrSpryex ∧
    decodeWord (.vic (vicWord false 0x18#6)) = .ok .vicWrMemptr ∧
    decodeWord (.vic (vicWord false 0x1A#6)) = .ok .vicWrIrqmask ∧
    (∀ i : BitVec 6, 0x1B ≤ i.toNat → i.toNat ≤ 0x1D → decodeWord (.vic (vicWord false i)) = .ok (.vicWrSprmisc i)) ∧
    (∀ i : BitVec 6, 0x1E ≤ i.toNat → i.toNat ≤ 0x1F → decodeWord (.vic (vicWord false i)) = .ok (.vicWrColl i)) ∧
    decodeWord (.vic (vicWord false 0x20#6)) = .ok .vicWrBorder ∧
    (∀ i : BitVec 6, 0x21 ≤ i.toNat → i.toNat ≤ 0x24 → decodeWord (.vic (vicWord false i)) = .ok (.vicWrBg i)) ∧
    (∀ i : BitVec 6, 0x25 ≤ i.toNat → i.toNat ≤ 0x2E → decodeWord (.vic (vicWord false i)) = .ok (.vicWrSprcol i))) ∧
  ∀ (i : BitVec 6) (s : State) (ins : Instr) (x : BitVec 6),
    ((ins = (.vicWrSprpos i) ∧ x = i) ∨
      (ins = (.vicWrLp i) ∧ x = i) ∨
      (ins = .vicWrSpren ∧ x = 0x15#6) ∨
      (ins = .vicWrCr2 ∧ x = 0x16#6) ∨
      (ins = .vicWrSpryex ∧ x = 0x17#6) ∨
      (ins = .vicWrMemptr ∧ x = 0x18#6) ∨
      (ins = .vicWrIrqmask ∧ x = 0x1A#6) ∨
      (ins = (.vicWrSprmisc i) ∧ x = i) ∨
      (ins = (.vicWrColl i) ∧ x = i) ∨
      (ins = .vicWrBorder ∧ x = 0x20#6) ∨
      (ins = (.vicWrBg i) ∧ x = i) ∨
      (ins = (.vicWrSprcol i) ∧ x = i)) →
    ∃ t, exec ins s = .next t ∧ (∀ j, t.vic.r.read j = if j = x then s.inp.d else s.vic.r.read j) ∧
      { t with vic := { t.vic with r := s.vic.r } } = s

/-- VIC_WR_CR1: the latch's $11 is D and the read-visible $11 is D with bit 7 cleared; VIC_WR_RASTER: the latch's $12 is
D and the read-visible set is unchanged; no other register, not the scanline, nothing else changes; the select words
decode to them. (States R281, R282.) -/
def Obligations.VicRasterLatchWrites : Prop :=
  decodeWord (.vic 0x11#7) = .ok .vicWrCr1 ∧ decodeWord (.vic 0x12#7) = .ok .vicWrRaster ∧
  ∀ s : State,
    (∃ t, exec .vicWrCr1 s = .next t ∧ (∀ j, t.vic.w.read j = if j = 0x11#6 then s.inp.d else s.vic.w.read j) ∧
      (∀ j, j ≠ 0x11#6 → t.vic.r.read j = s.vic.r.read j) ∧ (t.vic.r.read 0x11#6).getLsbD 7 = false ∧
      (∀ b, b < 7 → (t.vic.r.read 0x11#6).getLsbD b = s.inp.d.getLsbD b) ∧
      { t with vic := { t.vic with r := s.vic.r, w := s.vic.w } } = s) ∧
    (∃ t, exec .vicWrRaster s = .next t ∧ (∀ j, t.vic.w.read j = if j = 0x12#6 then s.inp.d else s.vic.w.read j) ∧
      { t with vic := { t.vic with w := s.vic.w } } = s)

/-- VIC_WR_IRQFLAG: bit b < 4 of vic.r[$19] is the old one and not D[b], bits 4-6 are 0, bit 7 is 1 exactly when some
bit 0-3 remains; every other register and the rest of the state are unchanged; its select word 0x19 decodes to it.
(States R288.) -/
def Obligations.VicFlagWriteOneToClear : Prop :=
  decodeWord (.vic 0x19#7) = .ok .vicWrIrqflag ∧
  ∀ s : State, ∃ t, exec .vicWrIrqflag s = .next t ∧
    (∀ b, b < 4 →
      (t.vic.r.read 0x19#6).getLsbD b = ((s.vic.r.read 0x19#6).getLsbD b && !s.inp.d.getLsbD b)) ∧
    (∀ b, 4 ≤ b → b < 7 → (t.vic.r.read 0x19#6).getLsbD b = false) ∧
    ((t.vic.r.read 0x19#6).getLsbD 7 = true ↔ ∃ b, b < 4 ∧ (t.vic.r.read 0x19#6).getLsbD b = true) ∧
    (∀ j, j ≠ 0x19#6 → t.vic.r.read j = s.vic.r.read j) ∧ { t with vic := { t.vic with r := s.vic.r } } = s

/-- Below the line period only the cycle counter changes; at it the cycle is 0, the scanline is the next modulo
TOTAL_LINES and of the registers only the flag $19 can change; the VIC tick of a CLK changes nothing but the VIC and
the framebuffer. (States R301.) -/
def Obligations.VicTickCountsLines : Prop :=
  (∀ (p : VideoParams) (v : Vic), 2 ≤ p.totalLines → p.totalLines ≤ 512 →
    (v.cycle + 1 < p.cyclesPerLine → vicTick p v = { v with cycle := v.cycle + 1 }) ∧
    (p.cyclesPerLine ≤ v.cycle + 1 →
      (vicTick p v).cycle = 0 ∧ (vicTick p v).line.toNat = (v.line.toNat + 1) % p.totalLines ∧
      (vicTick p v).w = v.w ∧ (∀ j, j ≠ 0x19#6 → (vicTick p v).r.read j = v.r.read j))) ∧
  (1 ≤ videoParams.cyclesPerLine ∧ 2 ≤ videoParams.totalLines ∧ videoParams.totalLines ≤ 512) ∧
  (∀ s : State, (vicClk s).vic = vicTick videoParams s.vic ∧ { vicClk s with vic := s.vic, fb := s.fb } = s)

/-- At the beginning of a line vic.r[$19] gets bits 0 and 7 exactly when the new scanline is vic.w[$12] + 256 *
vic.w[$11][7] and vic.r[$1A][0] = 1, and is else unchanged; within a line it is unchanged; a target of TOTAL_LINES
or more never matches. (States R302.) -/
def Obligations.RasterInterruptCondition : Prop :=
  ∀ (p : VideoParams) (v : Vic), 2 ≤ p.totalLines → p.totalLines ≤ 512 →
    (v.cycle + 1 < p.cyclesPerLine → (vicTick p v).r.read 0x19#6 = v.r.read 0x19#6) ∧
    (p.cyclesPerLine ≤ v.cycle + 1 →
      (vicTick p v).r.read 0x19#6 =
        if (v.line.toNat + 1) % p.totalLines =
              (v.w.read 0x12#6).toNat + (if (v.w.read 0x11#6).getLsbD 7 then 256 else 0) ∧
            (v.r.read 0x1A#6).getLsbD 0 = true
        then v.r.read 0x19#6 ||| 0x81#8
        else v.r.read 0x19#6) ∧
    (p.totalLines ≤ (v.w.read 0x12#6).toNat + (if (v.w.read 0x11#6).getLsbD 7 then 256 else 0) →
      (vicTick p v).r.read 0x19#6 = v.r.read 0x19#6)

/-- For all parameters and a canonical framebuffer: when a tick begins line FB_FIRST_LINE + y with DEN = 1 and y < 200,
pixel (x, y) is pixel x mod 8 of cell (y/8)*40 + x/8 on line y mod 8 for all 320 x, and every byte of the other rows
is as before; else the framebuffer is unchanged; the VIC tick of a CLK renders so, and only when a line begins.
(States R303, R321, R322.) -/
def Obligations.VisibleLineRendersItsRow : Prop :=
  (∀ (p : VideoParams) (src : VideoSource) (v : Vic) (s : State) (t : State), 2 ≤ p.totalLines → p.totalLines ≤ 512 →
    s.fb.wf fbSize = true → p.cyclesPerLine ≤ v.cycle + 1 → t.fb = renderIfVisible p src (vicTick p v) s.fb →
    (∀ y, y < 200 → (v.r.read 0x11#6).getLsbD 4 = true → (v.line.toNat + 1) % p.totalLines = p.fbFirstLine + y →
      (∀ x, x < 320 → (cellPixels src (y / 8 * 40 + x / 8) (y % 8))[x % 8]? = some (pixel t x y)) ∧
      (∀ j, j < y * 160 ∨ y * 160 + 160 ≤ j → t.fb.read j = s.fb.read j)) ∧
    ((v.r.read 0x11#6).getLsbD 4 = false ∨ (v.line.toNat + 1) % p.totalLines < p.fbFirstLine ∨
        p.fbFirstLine + 200 ≤ (v.line.toNat + 1) % p.totalLines →
      t.fb = s.fb)) ∧
  (∀ s : State,
    (vicClk s).fb =
      if videoParams.cyclesPerLine ≤ s.vic.cycle + 1 then
        renderIfVisible videoParams (videoSource s) (vicTick videoParams s.vic) s.fb
      else s.fb)

/-- A render's source is bank_base = (3 - cia[2].r[$00] mod 4) * $4000 of this state's CIA2, and this state's RAM and
read-visible VIC registers, with CHAR_ROM. matrix_off = ($18 / 16) * $400, char_off = ($18 / 2 mod 8) * $800,
bitmap_off = ($18 / 8 mod 2) * $2000; a fetch reads RAM at the bank, a character fetch the character ROM at
$1000-$1FFF of banks $0000 and $8000 only; matrix and bitmap bytes are plain fetches and never the ROM, character
rows are character fetches; the colour is the low nibble of ram[$D800 + n]. (States R310, R311, R312, R313, R314,
R315.) -/
def Obligations.VideoAddressesAndFetches : Prop :=
  (∀ s : State, (videoSource s).bankBase = (3 - (s.cia2.r.read 0x0#4).toNat % 4) * 0x4000 ∧
    (videoSource s).ram = s.ram ∧ (videoSource s).r = s.vic.r ∧ (videoSource s).charRom = Config.charRom) ∧
  (∀ c : Cia, bankBase c = (3 - (c.r.read 0x0#4).toNat % 4) * 0x4000) ∧
  (∀ r : RegFile 6, matrixOff r = (r.read 0x18#6).toNat / 16 * 0x400 ∧ charOff r = (r.read 0x18#6).toNat / 2 % 8 * 0x800 ∧
    bitmapOff r = (r.read 0x18#6).toNat / 8 % 2 * 0x2000) ∧
  (∀ (v : VideoSource) (off : Nat), vicFetch v off = v.ram.read (v.bankBase + off) ∧
    ((v.bankBase = 0x0000 ∨ v.bankBase = 0x8000) ∧ 0x1000 ≤ off ∧ off ≤ 0x1FFF →
      vicCharFetch v off = v.charRom (BitVec.ofNat 12 (off - 0x1000))) ∧
    (¬((v.bankBase = 0x0000 ∨ v.bankBase = 0x8000) ∧ 0x1000 ≤ off ∧ off ≤ 0x1FFF) →
      vicCharFetch v off = v.ram.read (v.bankBase + off))) ∧
  (∀ (v : VideoSource) (n code ly : Nat), matrixByte v n = v.ram.read (v.bankBase + (matrixOff v.r + n)) ∧
    bitmapRow v n ly = v.ram.read (v.bankBase + (bitmapOff v.r + n * 8 + ly)) ∧
    charRow v code ly = vicCharFetch v (charOff v.r + code * 8 + ly)) ∧
  (∀ (v : VideoSource) (n : Nat), (cellColour v n).toNat = (v.ram.read (0xD800 + n)).toNat % 16)

/-- Standard: bit 7 - px of the character row selects colour(n) or background 0. Multicolour with colour bit 3: the bit
pair of px/2 selects backgrounds 0, 1, 2 or the colour's low 3 bits; without it, as standard with the low 3 bits.
Extended: the shape of code mod 64, on the background of the code's top two bits. (States R330, R331, R332.) -/
def Obligations.TextModePixels : Prop :=
  ∀ (v : VideoSource) (n ly px : Nat), px < 8 →
    let code := vicFetch v (matrixOff v.r + n)
    let bits := vicCharFetch v (charOff v.r + code.toNat * 8 + ly)
    let pair := bits.toNat / 4 ^ (3 - px / 2) % 4
    let bg := fun j : Nat => (v.r.read (BitVec.ofNat 6 (0x21 + j))).setWidth 4
    let ecm := (v.r.read 0x11#6).getLsbD 6
    let bmm := (v.r.read 0x11#6).getLsbD 5
    let mcm := (v.r.read 0x16#6).getLsbD 4
    (ecm = false → bmm = false → mcm = false →
      (cellPixels v n ly)[px]? = some (if bits.getLsbD (7 - px) then cellColour v n else bg 0)) ∧
    (ecm = false → bmm = false → mcm = true → (cellColour v n).getLsbD 3 = false →
      (cellPixels v n ly)[px]? = some (if bits.getLsbD (7 - px) then cellColour v n &&& 7#4 else bg 0)) ∧
    (ecm = false → bmm = false → mcm = true → (cellColour v n).getLsbD 3 = true →
      (cellPixels v n ly)[px]? = some (if pair = 3 then cellColour v n &&& 7#4 else bg pair)) ∧
    (ecm = true → bmm = false → mcm = false →
      (cellPixels v n ly)[px]? =
        some (if (vicCharFetch v (charOff v.r + code.toNat % 64 * 8 + ly)).getLsbD (7 - px) then cellColour v n
          else bg (code.toNat / 64)))

/-- Standard bitmap: bit 7 - px of the bitmap byte selects the screen byte's high or low nibble. Multicolour bitmap: the
bit pair of px/2 selects background 0, the high nibble, the low nibble, colour(n). The three invalid combinations
give colour 0, so every byte of a row is $00. (States R333, R334, R335.) -/
def Obligations.BitmapAndInvalidModePixels : Prop :=
  ∀ (v : VideoSource) (n ly px : Nat), px < 8 →
    let bits := vicFetch v (bitmapOff v.r + n * 8 + ly)
    let sc := vicFetch v (matrixOff v.r + n)
    let pair := bits.toNat / 4 ^ (3 - px / 2) % 4
    let ecm := (v.r.read 0x11#6).getLsbD 6
    let bmm := (v.r.read 0x11#6).getLsbD 5
    let mcm := (v.r.read 0x16#6).getLsbD 4
    (ecm = false → bmm = true → mcm = false →
      (cellPixels v n ly)[px]? =
        some (BitVec.ofNat 4 (if bits.getLsbD (7 - px) then sc.toNat / 16 else sc.toNat))) ∧
    (ecm = false → bmm = true → mcm = true →
      (cellPixels v n ly)[px]? =
        some (if pair = 0 then (v.r.read 0x21#6).setWidth 4
          else if pair = 1 then BitVec.ofNat 4 (sc.toNat / 16)
          else if pair = 2 then BitVec.ofNat 4 sc.toNat
          else cellColour v n)) ∧
    (ecm = true → bmm = true ∨ mcm = true →
      (cellPixels v n ly)[px]? = some 0#4 ∧ rowBytes v n = List.replicate 160 0x00#8)

/-- State.reset has canonical memories, CIA flags and masks, VIC flag, synchronous plain registers, counters in range
and an IRQ output that shows the pending flags. (Derived from 10_state.md R86, 10_state.md R52, R53, R57, R64, R80,
R81.) -/
def Obligations.ResetMeetsTheInvariant : Prop :=
  MachineInv State.reset

/-- From every state whose memories are canonical, whose CIA flags are $00, $81, $82 or $83, whose CIA mask bits 5-7 are
0, whose plain and control registers agree in both views, whose VIC flag is $00 or $81, whose unused VIC registers
are $00, whose counters are in range and whose IRQ output shows the pending flags, a step answers a next state, in
which all that holds again. (Derived from 10_state.md R45, 10_state.md R52, 10_state.md R53, 10_state.md R57,
10_state.md R59, 10_state.md R64, 10_state.md R80, 10_state.md R81, 95_test_vectors.md section 3, 60_exceptions.md
R402.) -/
def Obligations.StepKeepsTheInvariant : Prop :=
  ∀ s : State, MachineInv s → ∃ t, step s = .next t ∧ MachineInv t

/-- For every register set, cell n below 1000, code below 256 and line ly below 8, the matrix offset is at most $3C00 +
999, the character offset at most $3800 + $7FF, the bitmap offset at most $2000 + 7999, so all are in 0..$3FFF.
(Derived from 43_vic_raster_render.md R314 (this sentence is marked derived there), 43_vic_raster_render.md R311,
43_vic_raster_render.md R312, 43_vic_raster_render.md R313, 43_vic_raster_render.md R321.) -/
def Obligations.FetchOffsetsStayInTheBank : Prop :=
  ∀ (r : RegFile 6) (n code ly : Nat), n < 1000 → code < 256 → ly < 8 →
    (matrixOff r + n ≤ 0x3C00 + 999 ∧ matrixOff r + n ≤ 0x3FFF) ∧
    (charOff r + code * 8 + ly ≤ 0x3800 + 0x7FF ∧ charOff r + code * 8 + ly ≤ 0x3FFF) ∧
    (bitmapOff r + n * 8 + ly ≤ 0x2000 + 7999 ∧ bitmapOff r + n * 8 + ly ≤ 0x3FFF)
end

