-- ==== Sys2Proof/Laws/Decode.lean ====
section
/-! SUPPORT. The laws of the decode words: their fields, and that a BUS word selects its row, and a read its target, by the page of the
address alone. -/

namespace Sys2Proof.Machine

@[simp] theorem busMode_busWord (rw : Bool) (m : BitVec 3) (a : Addr) : busMode (busWord rw m a) = m := by
  apply BitVec.eq_of_getLsbD_eq
  intro i hi
  simp only [busMode, busWord, BitVec.getLsbD_extractLsb', BitVec.getLsbD_append]
  simp [hi, show ¬ 16 + i < 16 by omega, show 16 + i - 16 = i by omega]

@[simp] theorem busAddr_busWord (rw : Bool) (m : BitVec 3) (a : Addr) : busAddr (busWord rw m a) = a := by
  apply BitVec.eq_of_getLsbD_eq
  intro i hi
  simp only [busAddr, busWord, BitVec.getLsbD_extractLsb', BitVec.getLsbD_append]
  simp [hi]

@[simp] theorem busRead_busWord (rw : Bool) (m : BitVec 3) (a : Addr) : busRead (busWord rw m a) = rw := by
  simp only [busRead, busWord, BitVec.getLsbD_append]
  cases rw <;> rfl

/-- A BUS word is made of its fields. -/
theorem busWord_eta (w : BitVec 20) : busWord (busRead w) (busMode w) (busAddr w) = w := by
  apply BitVec.eq_of_getLsbD_eq
  intro i hi
  simp only [busRead, busMode, busAddr, busWord, BitVec.getLsbD_extractLsb', BitVec.getLsbD_append]
  by_cases h : i < 16
  · simp [h]
  · by_cases h3 : i - 16 < 3
    · simp [h, h3, show 16 + (i - 16) = i by omega]
    · have : i = 19 := by omega
      subst this
      cases w.getLsbD 19 <;> rfl

/-- The address's page as an address. -/
def pageOf (a : Addr) : Addr := a.extractLsb' 8 8 ++ 0x00#8

theorem pageOf_toNat (a : Addr) : (pageOf a).toNat = a.toNat / 256 * 256 := by
  have := a.isLt
  simp only [pageOf, BitVec.toNat_append, BitVec.extractLsb'_toNat, Nat.shiftRight_eq_div_pow]
  simp [Nat.shiftLeft_eq]
  omega

/-- The read decode looks at the page only: every boundary of 20_memory.md R110 is one of pages. -/
theorem readTarget_page (m : BitVec 3) (a : Addr) : readTarget m (pageOf a) = readTarget m a := by
  have le (k : Nat) : (a.toNat / 256 * 256 ≤ 256 * k + 255) = (a.toNat ≤ 256 * k + 255) := by
    apply propext; omega
  have ge (k : Nat) : (256 * k ≤ a.toNat / 256 * 256) = (256 * k ≤ a.toNat) := by apply propext; omega
  have l1 := le 0x9F; have l2 := le 0xCF; have l3 := le 0xDF; have l4 := le 0xD3; have l5 := le 0xD7
  have l6 := le 0xDB; have l7 := le 0xDC; have l8 := le 0xDD; have l9 := le 0xBF
  have g1 := ge 0xC0; have g2 := ge 0xD0; have g3 := ge 0xA0; have g4 := ge 0xE0
  norm_num at l1 l2 l3 l4 l5 l6 l7 l8 l9 g1 g2 g3 g4
  simp only [readTarget, pageOf_toNat, l1, l2, l3, l4, l5, l6, l7, l8, l9, g1, g2, g3, g4]

theorem pageMask_getLsbD (i : Nat) (hi : i < 20) : (0xFFF00#20).getLsbD i = decide (8 ≤ i) := by
  revert i
  decide

theorem busWord_page (rw : Bool) (m : BitVec 3) (a : Addr) :
    busWord rw m a &&& 0xFFF00#20 = busWord rw m (pageOf a) := by
  apply BitVec.eq_of_getLsbD_eq
  intro i hi
  rw [BitVec.getLsbD_and, pageMask_getLsbD i hi]
  simp only [busWord, pageOf, BitVec.getLsbD_append, BitVec.getLsbD_extractLsb', BitVec.getLsbD_zero]
  by_cases h8 : 8 ≤ i
  · by_cases h16 : i < 16
    · simp [h8, h16, show ¬ i < 8 by omega, show i - 8 < 8 by omega, show 8 + (i - 8) = i by omega]
    · simp [h8, h16]
  · simp [h8, show i < 16 by omega, show i < 8 by omega]

/-- Every BUS row's mask is clear in the low byte (30_encoding.md R153, R154). -/
theorem busRows_mask : ∀ r ∈ busRows, r.mask &&& 0xFFF00#20 = r.mask := by decide

theorem row_page {r : Row 20 BusOp} (h : r ∈ busRows) (rw : Bool) (m : BitVec 3) (a : Addr) :
    busWord rw m a &&& r.mask = busWord rw m (pageOf a) &&& r.mask := by
  rw [← busWord_page, BitVec.and_assoc, BitVec.and_comm 0xFFF00#20, busRows_mask r h]

theorem lookupRow_congr {n : Nat} {α : Type} {rows : List (Row n α)} {v w : BitVec n}
    (h : ∀ r ∈ rows, v &&& r.mask = w &&& r.mask) : lookupRow rows v = lookupRow rows w := by
  induction rows with
  | nil => rfl
  | cons r rs ih =>
    simp only [lookupRow]
    rw [h r (List.mem_cons_self ..), ih (fun q hq => h q (List.mem_cons_of_mem _ hq))]

/-- A BUS word selects the row of its page. -/
theorem lookup_busRows_page (rw : Bool) (m : BitVec 3) (a : Addr) :
    lookupRow busRows (busWord rw m a) = lookupRow busRows (busWord rw m (pageOf a)) :=
  lookupRow_congr (fun _ h => row_page h rw m a)

/-- Whether some row of operation op matches w. -/
def someRow {n : Nat} {α : Type} [DecidableEq α] (rows : List (Row n α)) (w : BitVec n) (op : α) : Bool :=
  rows.any (fun r => decide (w &&& r.mask = r.val) && decide (r.op = op))

theorem someRow_page (rw : Bool) (m : BitVec 3) (a : Addr) (op : BusOp) :
    someRow busRows (busWord rw m a) op = someRow busRows (busWord rw m (pageOf a)) op := by
  unfold someRow
  rw [Bool.eq_iff_iff, List.any_eq_true, List.any_eq_true]
  constructor
  · rintro ⟨r, hr, h⟩; exact ⟨r, hr, by rw [← row_page hr]; exact h⟩
  · rintro ⟨r, hr, h⟩; exact ⟨r, hr, by rw [row_page hr]; exact h⟩

end Sys2Proof.Machine
end

