-- ==== Sys2Proof/Laws/Index.lean ====
section
/-! SUPPORT. The register index in an address and in a select word. -/

namespace Sys2Proof.Machine

theorem ofNat_eq_vicIndexOf (a : Addr) : BitVec.ofNat 6 a.toNat = vicIndexOf a := by
  apply BitVec.eq_of_toNat_eq
  simp [vicIndexOf]

theorem ofNat_eq_ciaIndex (a : Addr) : BitVec.ofNat 4 a.toNat = ciaIndex a := by
  apply BitVec.eq_of_toNat_eq
  simp [ciaIndex]

theorem vicIndexOf_toNat (a : Addr) : (vicIndexOf a).toNat = a.toNat % 64 := by simp [vicIndexOf]

theorem ciaIndex_toNat (a : Addr) : (ciaIndex a).toNat = a.toNat % 16 := by simp [ciaIndex]

@[simp] theorem vicIndex_vicWord (rw : Bool) (i : BitVec 6) : vicIndex (vicWord rw i) = i := by
  revert i rw
  decide

@[simp] theorem ciaInst_ciaWord (k : CiaId) (rw : Bool) (i : BitVec 4) : ciaInst (ciaWord k rw i) = k := by
  revert i
  cases k <;> cases rw <;> decide

end Sys2Proof.Machine
end

