-- ==== Sys2Proof/Laws/Memory.lean ====
section
/-! SUPPORT. The laws of memory: a read after a write, and that every memory operation keeps the canonical form. -/

namespace Sys2Proof.Machine

@[simp] theorem memory_read_nil (a : Nat) : Memory.read [] a = 0x00#8 := rfl

/-- A canonical memory lists nothing below its lower bound. -/
theorem read_below {lo hi a : Nat} {m : Memory} (h : Memory.wfFrom lo hi m = true) (ha : a < lo) :
    Memory.read m a = unlistedByte := by
  induction m generalizing lo with
  | nil => rfl
  | cons e m ih =>
    obtain ⟨b, x⟩ := e
    simp only [Memory.wfFrom, Bool.and_eq_true, decide_eq_true_eq] at h
    simp only [Memory.read]
    rw [if_neg (by omega)]
    exact ih h.2 (by omega)

/-- The lower bound of a canonical memory may be lowered. -/
theorem wfFrom_mono {lo lo' hi : Nat} {m : Memory} (h : Memory.wfFrom lo hi m = true) (hl : lo' ≤ lo) :
    Memory.wfFrom lo' hi m = true := by
  cases m with
  | nil => rfl
  | cons e m =>
    obtain ⟨b, x⟩ := e
    simp only [Memory.wfFrom, Bool.and_eq_true, decide_eq_true_eq] at h ⊢
    exact ⟨⟨⟨by omega, h.1.1.2⟩, h.1.2⟩, h.2⟩

/-- A write keeps the canonical form. -/
theorem wfFrom_write {lo hi a : Nat} {m : Memory} (v : Byte) (h : Memory.wfFrom lo hi m = true) (hlo : lo ≤ a)
    (hhi : a < hi) : Memory.wfFrom lo hi (m.write a v) = true := by
  induction m generalizing lo with
  | nil =>
    simp only [Memory.write]
    split
    · rfl
    · next hv => simp [Memory.wfFrom, hlo, hhi, hv]
  | cons e m ih =>
    obtain ⟨b, x⟩ := e
    have h0 := h
    simp only [Memory.wfFrom, Bool.and_eq_true, decide_eq_true_eq] at h
    obtain ⟨⟨⟨h1, h2⟩, h3⟩, h4⟩ := h
    simp only [Memory.write]
    split
    · split
      · exact h0
      · next hv =>
        simp only [Memory.wfFrom, Bool.and_eq_true, decide_eq_true_eq]
        exact ⟨⟨⟨hlo, hhi⟩, hv⟩, ⟨⟨by omega, h2⟩, h3⟩, h4⟩
    · split
      · split
        · exact wfFrom_mono h4 (by omega)
        · next he hv =>
          simp only [Memory.wfFrom, Bool.and_eq_true, decide_eq_true_eq]
          exact ⟨⟨⟨hlo, hhi⟩, hv⟩, by rw [he]; exact h4⟩
      · simp only [Memory.wfFrom, Bool.and_eq_true, decide_eq_true_eq]
        exact ⟨⟨⟨h1, h2⟩, h3⟩, ih h4 (by omega)⟩

theorem wf_write {size a : Nat} {m : Memory} (v : Byte) (h : m.wf size = true) (ha : a < size) :
    (m.write a v).wf size = true := wfFrom_write v h (Nat.zero_le a) ha

/-- A block written inside the memory keeps the canonical form. -/
theorem wf_writeBlock {size a : Nat} {m : Memory} (vs : List Byte) (h : m.wf size = true) (ha : a + vs.length ≤ size) :
    (m.writeBlock a vs).wf size = true := by
  induction vs generalizing m a with
  | nil => exact h
  | cons v vs ih =>
    simp only [List.length_cons] at ha
    exact ih (wf_write v h (by omega)) (by omega)

theorem wf_nil (size : Nat) : Memory.wf size [] = true := rfl

/-- A write leaves every other address alone (in any memory). -/
theorem read_write_ne {m : Memory} {a b : Nat} (v : Byte) (h : b ≠ a) : (m.write a v).read b = m.read b := by
  induction m with
  | nil =>
    simp only [Memory.write]
    split <;> simp [Memory.read, h]
  | cons e m ih =>
    obtain ⟨c, x⟩ := e
    simp only [Memory.write]
    split
    · split <;> simp [Memory.read, h]
    · split
      · next hc => split <;> simp [Memory.read, h, ← hc]
      · simp only [Memory.read, ih]

theorem readFrom_write_same {lo hi a : Nat} {m : Memory} (v : Byte) (h : Memory.wfFrom lo hi m = true) :
    (m.write a v).read a = v := by
  induction m generalizing lo with
  | nil =>
    simp only [Memory.write]
    split
    · next hv => rw [hv]; rfl
    · simp [Memory.read]
  | cons e m ih =>
    obtain ⟨b, x⟩ := e
    simp only [Memory.wfFrom, Bool.and_eq_true, decide_eq_true_eq] at h
    simp only [Memory.write]
    split
    · next hab =>
      split
      · next hv =>
        simp only [Memory.read]
        rw [if_neg (by omega), hv]
        exact read_below h.2 (by omega)
      · simp [Memory.read]
    · split
      · next hab =>
        split
        · next hv => rw [hv]; exact read_below h.2 (by omega)
        · simp [Memory.read]
      · next hlt hne =>
        simp only [Memory.read]
        rw [if_neg hne]
        exact ih h.2

/-- A read after a write to the same address gives the byte written, in a canonical memory. -/
theorem read_write_eq {size a : Nat} {m : Memory} (v : Byte) (h : m.wf size = true) : (m.write a v).read a = v :=
  readFrom_write_same v h

/-- A block leaves the addresses outside it alone. -/
theorem read_writeBlock_outside {m : Memory} {a b : Nat} (vs : List Byte) (h : b < a ∨ a + vs.length ≤ b) :
    (m.writeBlock a vs).read b = m.read b := by
  induction vs generalizing m a with
  | nil => rfl
  | cons v vs ih =>
    simp only [List.length_cons] at h
    simp only [Memory.writeBlock]
    rw [ih (by omega), read_write_ne v (by omega)]

/-- A block reads back byte by byte, in a canonical memory. -/
theorem read_writeBlock_inside {size : Nat} {m : Memory} {a j : Nat} {vs : List Byte} (h : m.wf size = true)
    (hs : a + vs.length ≤ size) (hj : j < vs.length) : (m.writeBlock a vs).read (a + j) = vs[j] := by
  induction vs generalizing m a j with
  | nil => simp at hj
  | cons v vs ih =>
    simp only [List.length_cons] at hs hj
    simp only [Memory.writeBlock]
    cases j with
    | zero =>
      rw [read_writeBlock_outside vs (by omega)]
      simpa using read_write_eq v h
    | succ j =>
      have hw : (m.write a v).wf size = true := wf_write v h (by omega)
      have := ih hw (a := a + 1) (j := j) (by omega) (by omega)
      simpa [Nat.add_assoc, Nat.add_comm 1 j] using this

end Sys2Proof.Machine
end

