-- ==== Sys2Proof/Laws/PerInstr.lean ====
section
/-! SUPPORT. Per instruction: the word of a well-formed operation matches a row of the opcode table that bears that operation, and the
row's operand fields are the operation's own. -/

namespace Sys2Proof.Laws

open Sys2Proof.Machine

/-- Some row of the table matches the word, and with the word's fields it is the operation i. -/
def rowSelects (c : CodeWord) (i : Instr) : Bool :=
  match c with
  | .bus w => busRows.any (fun r => decide (w &&& r.mask = r.val) && decide (r.op.instr (busMode w) (busAddr w) = i))
  | .cia w => ciaRows.any (fun r => decide (w &&& r.mask = r.val) && decide (r.op.instr (ciaInst w) = i))
  | .vic w => vicRows.any (fun r => decide (w &&& r.mask = r.val) && decide (r.op.instr (vicIndex w) = i))
  | .event w => eventRows.any (fun r => decide (w &&& r.mask = r.val) && decide (r.op.instr = i))

/-- The statement about one operation. -/
def RowSelected.Statement (i : Instr) : Prop := i.wellFormed = true → rowSelects (encode i) i = true

theorem rowSelects_bus (rw : Bool) (m : BitVec 3) (a : Addr) (op : BusOp) (h : someRow busRows (busWord rw m a) op = true) :
    rowSelects (.bus (busWord rw m a)) (op.instr m a) = true := by
  simp only [someRow, List.any_eq_true, Bool.and_eq_true, decide_eq_true_eq] at h
  obtain ⟨r, hr, hm, ho⟩ := h
  simp only [rowSelects, List.any_eq_true, Bool.and_eq_true, decide_eq_true_eq, busMode_busWord, busAddr_busWord]
  exact ⟨r, hr, hm, by rw [ho]⟩

/-- The BUS operation of a read target. -/
def readOp : Target → BusOp
  | .ram => .rdRam
  | .vic => .rdVic
  | .sid => .rdSid
  | .color => .rdColor
  | .cia1 => .rdCia1
  | .cia2 => .rdCia2
  | .ioexp => .rdIoexp
  | .char => .rdChar
  | .basic => .rdBasic
  | .kernal => .rdKernal

/-- The BUS operation of a write whose address has the read target. -/
def writeOp : Target → BusOp
  | .ram => .wrRam
  | .vic => .wrVic
  | .sid => .wrSid
  | .color => .wrColor
  | .cia1 => .wrCia1
  | .cia2 => .wrCia2
  | .ioexp => .wrIoexp
  | .char => .wrRam
  | .basic => .wrRam
  | .kernal => .wrRam

theorem someRow_page_table : ∀ (m : BitVec 3) (h : BitVec 8),
    (match readTarget m (h ++ 0x00#8) with
      | some t => someRow busRows (busWord true m (h ++ 0x00#8)) (readOp t)
          && someRow busRows (busWord false m (h ++ 0x00#8)) (writeOp t)
      | none => false) = true := by
  decide +kernel

theorem someRow_of_target (m : BitVec 3) (a : Addr) (t : Target) (ht : readTarget m a = some t) :
    someRow busRows (busWord true m a) (readOp t) = true ∧ someRow busRows (busWord false m a) (writeOp t) = true := by
  have h := someRow_page_table m (a.extractLsb' 8 8)
  rw [someRow_page true, someRow_page false]
  rw [← readTarget_page] at ht
  change (match readTarget m (pageOf a) with
      | some t => someRow busRows (busWord true m (pageOf a)) (readOp t)
          && someRow busRows (busWord false m (pageOf a)) (writeOp t)
      | none => false) = true at h
  rw [ht] at h
  simpa using h

theorem rowSelects_read (m : BitVec 3) (a : Addr) (t : Target) (h : (readTarget m a == some t) = true) :
    rowSelects (.bus (busWord true m a)) ((readOp t).instr m a) = true :=
  rowSelects_bus _ _ _ _ (someRow_of_target m a t (by simpa using h)).1

theorem rowSelects_write (m : BitVec 3) (a : Addr) (t : Target) (h : (readTarget m a == some t) = true) :
    rowSelects (.bus (busWord false m a)) ((writeOp t).instr m a) = true :=
  rowSelects_bus _ _ _ _ (someRow_of_target m a t (by simpa using h)).2

theorem RowSelected.busRdRam (m : BitVec 3) (a : Addr) : RowSelected.Statement (.busRdRam m a) := rowSelects_read m a .ram

theorem RowSelected.busRdVic (m : BitVec 3) (a : Addr) : RowSelected.Statement (.busRdVic m a) := rowSelects_read m a .vic

theorem RowSelected.busRdSid (m : BitVec 3) (a : Addr) : RowSelected.Statement (.busRdSid m a) := rowSelects_read m a .sid

theorem RowSelected.busRdColor (m : BitVec 3) (a : Addr) : RowSelected.Statement (.busRdColor m a) := rowSelects_read m a .color

theorem RowSelected.busRdCia1 (m : BitVec 3) (a : Addr) : RowSelected.Statement (.busRdCia1 m a) := rowSelects_read m a .cia1

theorem RowSelected.busRdCia2 (m : BitVec 3) (a : Addr) : RowSelected.Statement (.busRdCia2 m a) := rowSelects_read m a .cia2

theorem RowSelected.busRdIoexp (m : BitVec 3) (a : Addr) : RowSelected.Statement (.busRdIoexp m a) := rowSelects_read m a .ioexp

theorem RowSelected.busRdChar (m : BitVec 3) (a : Addr) : RowSelected.Statement (.busRdChar m a) := rowSelects_read m a .char

theorem RowSelected.busRdBasic (m : BitVec 3) (a : Addr) : RowSelected.Statement (.busRdBasic m a) := rowSelects_read m a .basic

theorem RowSelected.busRdKernal (m : BitVec 3) (a : Addr) : RowSelected.Statement (.busRdKernal m a) := rowSelects_read m a .kernal

theorem RowSelected.busWrRam (m : BitVec 3) (a : Addr) : RowSelected.Statement (.busWrRam m a) := by
  intro h
  simp only [Instr.wellFormed, plainWrite, Bool.or_eq_true] at h
  rcases h with ((h | h) | h) | h <;> exact rowSelects_write m a _ h

theorem RowSelected.busWrVic (m : BitVec 3) (a : Addr) : RowSelected.Statement (.busWrVic m a) := rowSelects_write m a .vic

theorem RowSelected.busWrSid (m : BitVec 3) (a : Addr) : RowSelected.Statement (.busWrSid m a) := rowSelects_write m a .sid

theorem RowSelected.busWrColor (m : BitVec 3) (a : Addr) : RowSelected.Statement (.busWrColor m a) := rowSelects_write m a .color

theorem RowSelected.busWrCia1 (m : BitVec 3) (a : Addr) : RowSelected.Statement (.busWrCia1 m a) := rowSelects_write m a .cia1

theorem RowSelected.busWrCia2 (m : BitVec 3) (a : Addr) : RowSelected.Statement (.busWrCia2 m a) := rowSelects_write m a .cia2

theorem RowSelected.busWrIoexp (m : BitVec 3) (a : Addr) : RowSelected.Statement (.busWrIoexp m a) := rowSelects_write m a .ioexp

theorem RowSelected.cia1RdPra : RowSelected.Statement .cia1RdPra := by unfold RowSelected.Statement; decide

theorem RowSelected.cia2RdPra : RowSelected.Statement .cia2RdPra := by unfold RowSelected.Statement; decide

theorem RowSelected.cia1RdPrb : RowSelected.Statement .cia1RdPrb := by unfold RowSelected.Statement; decide

theorem RowSelected.cia2RdPrb : RowSelected.Statement .cia2RdPrb := by unfold RowSelected.Statement; decide

theorem RowSelected.ciaRdDdra (k : CiaId) : RowSelected.Statement (.ciaRdDdra k) := by
  unfold RowSelected.Statement; cases k <;> decide

theorem RowSelected.ciaRdDdrb (k : CiaId) : RowSelected.Statement (.ciaRdDdrb k) := by
  unfold RowSelected.Statement; cases k <;> decide

theorem RowSelected.ciaRdTalo (k : CiaId) : RowSelected.Statement (.ciaRdTalo k) := by
  unfold RowSelected.Statement; cases k <;> decide

theorem RowSelected.ciaRdTahi (k : CiaId) : RowSelected.Statement (.ciaRdTahi k) := by
  unfold RowSelected.Statement; cases k <;> decide

theorem RowSelected.ciaRdTblo (k : CiaId) : RowSelected.Statement (.ciaRdTblo k) := by
  unfold RowSelected.Statement; cases k <;> decide

theorem RowSelected.ciaRdTbhi (k : CiaId) : RowSelected.Statement (.ciaRdTbhi k) := by
  unfold RowSelected.Statement; cases k <;> decide

theorem RowSelected.ciaRdTod10 (k : CiaId) : RowSelected.Statement (.ciaRdTod10 k) := by
  unfold RowSelected.Statement; cases k <;> decide

theorem RowSelected.ciaRdTodsec (k : CiaId) : RowSelected.Statement (.ciaRdTodsec k) := by
  unfold RowSelected.Statement; cases k <;> decide

theorem RowSelected.ciaRdTodmin (k : CiaId) : RowSelected.Statement (.ciaRdTodmin k) := by
  unfold RowSelected.Statement; cases k <;> decide

theorem RowSelected.ciaRdTodhr (k : CiaId) : RowSelected.Statement (.ciaRdTodhr k) := by
  unfold RowSelected.Statement; cases k <;> decide

theorem RowSelected.ciaRdSdr (k : CiaId) : RowSelected.Statement (.ciaRdSdr k) := by
  unfold RowSelected.Statement; cases k <;> decide

theorem RowSelected.ciaRdIcr (k : CiaId) : RowSelected.Statement (.ciaRdIcr k) := by
  unfold RowSelected.Statement; cases k <;> decide

theorem RowSelected.ciaRdCra (k : CiaId) : RowSelected.Statement (.ciaRdCra k) := by
  unfold RowSelected.Statement; cases k <;> decide

theorem RowSelected.ciaRdCrb (k : CiaId) : RowSelected.Statement (.ciaRdCrb k) := by
  unfold RowSelected.Statement; cases k <;> decide

theorem RowSelected.ciaWrPra (k : CiaId) : RowSelected.Statement (.ciaWrPra k) := by
  unfold RowSelected.Statement; cases k <;> decide

theorem RowSelected.ciaWrPrb (k : CiaId) : RowSelected.Statement (.ciaWrPrb k) := by
  unfold RowSelected.Statement; cases k <;> decide

theorem RowSelected.ciaWrDdra (k : CiaId) : RowSelected.Statement (.ciaWrDdra k) := by
  unfold RowSelected.Statement; cases k <;> decide

theorem RowSelected.ciaWrDdrb (k : CiaId) : RowSelected.Statement (.ciaWrDdrb k) := by
  unfold RowSelected.Statement; cases k <;> decide

theorem RowSelected.ciaWrTalo (k : CiaId) : RowSelected.Statement (.ciaWrTalo k) := by
  unfold RowSelected.Statement; cases k <;> decide

theorem RowSelected.ciaWrTahi (k : CiaId) : RowSelected.Statement (.ciaWrTahi k) := by
  unfold RowSelected.Statement; cases k <;> decide

theorem RowSelected.ciaWrTblo (k : CiaId) : RowSelected.Statement (.ciaWrTblo k) := by
  unfold RowSelected.Statement; cases k <;> decide

theorem RowSelected.ciaWrTbhi (k : CiaId) : RowSelected.Statement (.ciaWrTbhi k) := by
  unfold RowSelected.Statement; cases k <;> decide

theorem RowSelected.ciaWrTod10 (k : CiaId) : RowSelected.Statement (.ciaWrTod10 k) := by
  unfold RowSelected.Statement; cases k <;> decide

theorem RowSelected.ciaWrTodsec (k : CiaId) : RowSelected.Statement (.ciaWrTodsec k) := by
  unfold RowSelected.Statement; cases k <;> decide

theorem RowSelected.ciaWrTodmin (k : CiaId) : RowSelected.Statement (.ciaWrTodmin k) := by
  unfold RowSelected.Statement; cases k <;> decide

theorem RowSelected.ciaWrTodhr (k : CiaId) : RowSelected.Statement (.ciaWrTodhr k) := by
  unfold RowSelected.Statement; cases k <;> decide

theorem RowSelected.ciaWrSdr (k : CiaId) : RowSelected.Statement (.ciaWrSdr k) := by
  unfold RowSelected.Statement; cases k <;> decide

theorem RowSelected.ciaWrIcr (k : CiaId) : RowSelected.Statement (.ciaWrIcr k) := by
  unfold RowSelected.Statement; cases k <;> decide

theorem RowSelected.ciaWrCra (k : CiaId) : RowSelected.Statement (.ciaWrCra k) := by
  unfold RowSelected.Statement; cases k <;> decide

theorem RowSelected.ciaWrCrb (k : CiaId) : RowSelected.Statement (.ciaWrCrb k) := by
  unfold RowSelected.Statement; cases k <;> decide

theorem RowSelected.vicRdSprpos (i : BitVec 6) : RowSelected.Statement (.vicRdSprpos i) := by
  unfold RowSelected.Statement; revert i; decide +kernel

theorem RowSelected.vicRdCr1 : RowSelected.Statement .vicRdCr1 := by unfold RowSelected.Statement; decide

theorem RowSelected.vicRdRaster : RowSelected.Statement .vicRdRaster := by unfold RowSelected.Statement; decide

theorem RowSelected.vicRdLp (i : BitVec 6) : RowSelected.Statement (.vicRdLp i) := by
  unfold RowSelected.Statement; revert i; decide +kernel

theorem RowSelected.vicRdSpren : RowSelected.Statement .vicRdSpren := by unfold RowSelected.Statement; decide

theorem RowSelected.vicRdCr2 : RowSelected.Statement .vicRdCr2 := by unfold RowSelected.Statement; decide

theorem RowSelected.vicRdSpryex : RowSelected.Statement .vicRdSpryex := by unfold RowSelected.Statement; decide

theorem RowSelected.vicRdMemptr : RowSelected.Statement .vicRdMemptr := by unfold RowSelected.Statement; decide

theorem RowSelected.vicRdIrqflag : RowSelected.Statement .vicRdIrqflag := by unfold RowSelected.Statement; decide

theorem RowSelected.vicRdIrqmask : RowSelected.Statement .vicRdIrqmask := by unfold RowSelected.Statement; decide

theorem RowSelected.vicRdSprmisc (i : BitVec 6) : RowSelected.Statement (.vicRdSprmisc i) := by
  unfold RowSelected.Statement; revert i; decide +kernel

theorem RowSelected.vicRdColl (i : BitVec 6) : RowSelected.Statement (.vicRdColl i) := by
  unfold RowSelected.Statement; revert i; decide +kernel

theorem RowSelected.vicRdBorder : RowSelected.Statement .vicRdBorder := by unfold RowSelected.Statement; decide

theorem RowSelected.vicRdBg (i : BitVec 6) : RowSelected.Statement (.vicRdBg i) := by
  unfold RowSelected.Statement; revert i; decide +kernel

theorem RowSelected.vicRdSprcol (i : BitVec 6) : RowSelected.Statement (.vicRdSprcol i) := by
  unfold RowSelected.Statement; revert i; decide +kernel

theorem RowSelected.vicRdUnused (i : BitVec 6) : RowSelected.Statement (.vicRdUnused i) := by
  unfold RowSelected.Statement; revert i; decide +kernel

theorem RowSelected.vicWrSprpos (i : BitVec 6) : RowSelected.Statement (.vicWrSprpos i) := by
  unfold RowSelected.Statement; revert i; decide +kernel

theorem RowSelected.vicWrCr1 : RowSelected.Statement .vicWrCr1 := by unfold RowSelected.Statement; decide

theorem RowSelected.vicWrRaster : RowSelected.Statement .vicWrRaster := by unfold RowSelected.Statement; decide

theorem RowSelected.vicWrLp (i : BitVec 6) : RowSelected.Statement (.vicWrLp i) := by
  unfold RowSelected.Statement; revert i; decide +kernel

theorem RowSelected.vicWrSpren : RowSelected.Statement .vicWrSpren := by unfold RowSelected.Statement; decide

theorem RowSelected.vicWrCr2 : RowSelected.Statement .vicWrCr2 := by unfold RowSelected.Statement; decide

theorem RowSelected.vicWrSpryex : RowSelected.Statement .vicWrSpryex := by unfold RowSelected.Statement; decide

theorem RowSelected.vicWrMemptr : RowSelected.Statement .vicWrMemptr := by unfold RowSelected.Statement; decide

theorem RowSelected.vicWrIrqflag : RowSelected.Statement .vicWrIrqflag := by unfold RowSelected.Statement; decide

theorem RowSelected.vicWrIrqmask : RowSelected.Statement .vicWrIrqmask := by unfold RowSelected.Statement; decide

theorem RowSelected.vicWrSprmisc (i : BitVec 6) : RowSelected.Statement (.vicWrSprmisc i) := by
  unfold RowSelected.Statement; revert i; decide +kernel

theorem RowSelected.vicWrColl (i : BitVec 6) : RowSelected.Statement (.vicWrColl i) := by
  unfold RowSelected.Statement; revert i; decide +kernel

theorem RowSelected.vicWrBorder : RowSelected.Statement .vicWrBorder := by unfold RowSelected.Statement; decide

theorem RowSelected.vicWrBg (i : BitVec 6) : RowSelected.Statement (.vicWrBg i) := by
  unfold RowSelected.Statement; revert i; decide +kernel

theorem RowSelected.vicWrSprcol (i : BitVec 6) : RowSelected.Statement (.vicWrSprcol i) := by
  unfold RowSelected.Statement; revert i; decide +kernel

theorem RowSelected.vicWrUnused (i : BitVec 6) : RowSelected.Statement (.vicWrUnused i) := by
  unfold RowSelected.Statement; revert i; decide +kernel

theorem RowSelected.clk : RowSelected.Statement .clk := by unfold RowSelected.Statement; decide

theorem RowSelected.reset : RowSelected.Statement .reset := by unfold RowSelected.Statement; decide

end Sys2Proof.Laws
end

