-- ==== Sys2Proof/Laws/Registers.lean ====
section
/-! SUPPORT. The laws of register files, of a CIA's views and of a timer's register pair. -/

namespace Sys2Proof.Machine

@[simp] theorem read_write_same {n : Nat} (f : RegFile n) (i : BitVec n) (v : Byte) : (f.write i v).read i = v := by
  simp [RegFile.read, RegFile.write]

theorem read_write_other {n : Nat} (f : RegFile n) (i j : BitVec n) (v : Byte) (h : j ≠ i) :
    (f.write i v).read j = f.read j := by
  have hn : i.toNat ≠ j.toNat := fun e => h (BitVec.eq_of_toNat_eq e.symm)
  simp [RegFile.read, RegFile.write, hn]

/-- A read after a write, in one equation. -/
theorem read_write {n : Nat} (f : RegFile n) (i j : BitVec n) (v : Byte) :
    (f.write i v).read j = if j = i then v else f.read j := by
  split
  · next h => rw [h, read_write_same]
  · next h => exact read_write_other f i j v h

@[simp] theorem read_zero (n : Nat) (i : BitVec n) : (RegFile.zero n).read i = 0x00#8 := by
  simp [RegFile.read, RegFile.zero]

/-- Two files that read alike are one. -/
theorem regFile_ext {n : Nat} (f g : RegFile n) (h : ∀ i, f.read i = g.read i) : f = g := by
  apply Vector.ext
  intro j hj
  have := h (BitVec.ofNatLT j hj)
  simpa [RegFile.read] using this

@[simp] theorem write_read_self {n : Nat} (f : RegFile n) (i : BitVec n) : f.write i (f.read i) = f := by
  apply regFile_ext
  intro j
  rw [read_write]
  split <;> simp_all

@[simp] theorem setRead_r (c : Cia) (i : BitVec 4) (v : Byte) : (c.setRead i v).r = c.r.write i v := rfl
@[simp] theorem setRead_w (c : Cia) (i : BitVec 4) (v : Byte) : (c.setRead i v).w = c.w := rfl
@[simp] theorem setLatch_r (c : Cia) (i : BitVec 4) (v : Byte) : (c.setLatch i v).r = c.r := rfl
@[simp] theorem setLatch_w (c : Cia) (i : BitVec 4) (v : Byte) : (c.setLatch i v).w = c.w.write i v := rfl
@[simp] theorem storeBoth_r (c : Cia) (i : BitVec 4) (v : Byte) : (c.storeBoth i v).r = c.r.write i v := rfl
@[simp] theorem storeBoth_w (c : Cia) (i : BitVec 4) (v : Byte) : (c.storeBoth i v).w = c.w.write i v := rfl

@[simp] theorem setTimerCounter_w (x : TimerId) (v : BitVec 16) (c : Cia) : (setTimerCounter x v c).w = c.w := rfl
@[simp] theorem loadTimer_w (x : TimerId) (c : Cia) : (loadTimer x c).w = c.w := rfl

@[simp] theorem setTimerCounter_r (x : TimerId) (v : BitVec 16) (c : Cia) :
    (setTimerCounter x v c).r = (c.r.write (timerLo x) (v.extractLsb' 0 8)).write (timerHi x) (v.extractLsb' 8 8) := rfl

@[simp] theorem loadTimer_r (x : TimerId) (c : Cia) :
    (loadTimer x c).r = (c.r.write (timerLo x) (c.w.read (timerLo x))).write (timerHi x) (c.w.read (timerHi x)) := rfl

/-- A pair's two bytes. -/
@[simp] theorem pair_split (v : BitVec 16) : pair (v.extractLsb' 0 8) (v.extractLsb' 8 8) = v := by
  apply BitVec.eq_of_toNat_eq
  have := v.isLt
  simp only [pair, BitVec.toNat_append, BitVec.extractLsb'_toNat, Nat.shiftRight_zero]
  rw [← Nat.shiftLeft_add_eq_or_of_lt (by omega), Nat.shiftLeft_eq, Nat.shiftRight_eq_div_pow]
  omega

theorem timer_indices_distinct (x : TimerId) :
    timerLo x ≠ timerHi x ∧ timerLo x ≠ timerCr x ∧ timerHi x ≠ timerCr x ∧ timerLo x ≠ 0xD#4 ∧ timerHi x ≠ 0xD#4 ∧
      timerCr x ≠ 0xD#4 := by
  cases x <;> decide

/-- The counter reads what was set. -/
@[simp] theorem timerCounter_setTimerCounter (x : TimerId) (v : BitVec 16) (c : Cia) :
    timerCounter x (setTimerCounter x v c) = v := by
  have h := (timer_indices_distinct x).1
  simp [timerCounter, read_write_other _ _ _ _ h]

/-- A load brings the latch into the counter. -/
@[simp] theorem timerCounter_loadTimer (x : TimerId) (c : Cia) : timerCounter x (loadTimer x c) = timerLatch x c := by
  have h := (timer_indices_distinct x).1
  simp [timerCounter, timerLatch, read_write_other _ _ _ _ h]

/-- A counter's two bytes are those of its registers. -/
theorem timerCounter_lo (x : TimerId) (c : Cia) : (timerCounter x c).extractLsb' 0 8 = c.r.read (timerLo x) := by
  apply BitVec.eq_of_toNat_eq
  have := (c.r.read (timerLo x)).isLt
  simp only [timerCounter, pair, BitVec.toNat_append, BitVec.extractLsb'_toNat, Nat.shiftRight_zero]
  rw [← Nat.shiftLeft_add_eq_or_of_lt (by omega), Nat.shiftLeft_eq]
  omega

theorem timerCounter_hi (x : TimerId) (c : Cia) : (timerCounter x c).extractLsb' 8 8 = c.r.read (timerHi x) := by
  apply BitVec.eq_of_toNat_eq
  have := (c.r.read (timerLo x)).isLt
  have := (c.r.read (timerHi x)).isLt
  simp only [timerCounter, pair, BitVec.toNat_append, BitVec.extractLsb'_toNat]
  rw [← Nat.shiftLeft_add_eq_or_of_lt (by omega), Nat.shiftLeft_eq, Nat.shiftRight_eq_div_pow]
  omega

end Sys2Proof.Machine
end

