-- ==== Sys2Proof/Laws/Render.lean ====
section
/-! SUPPORT. What the renderer and the raster counter can do: the pixels of a cell, the bytes of a row, the row in the framebuffer. -/

namespace Sys2Proof.Machine

/-- Pixel px of a one-bit cell line. -/
theorem hiresPixels_get (bits : Byte) (on off : Colour) {px : Nat} (h : px < 8) :
    (hiresPixels bits on off)[px]? = some (if bits.getLsbD (7 - px) then on else off) := by
  simp [hiresPixels, h]

/-- Pixel px of a two-bit cell line: both pixels of a pair show it. -/
theorem multiPixels_get (bits : Byte) (c0 c1 c2 c3 : Colour) {px : Nat} (h : px < 8) :
    (multiPixels bits c0 c1 c2 c3)[px]? = some (pickColour c0 c1 c2 c3 (bits.extractLsb' (6 - 2 * (px / 2)) 2)) := by
  simp [multiPixels, h]

@[simp] theorem hiresPixels_length (bits : Byte) (on off : Colour) : (hiresPixels bits on off).length = 8 := by
  simp [hiresPixels]

@[simp] theorem multiPixels_length (bits : Byte) (c0 c1 c2 c3 : Colour) : (multiPixels bits c0 c1 c2 c3).length = 8 := by
  simp [multiPixels]

/-- A cell line has eight pixels in every mode. -/
@[simp] theorem cellPixels_length (v : VideoSource) (n ly : Nat) : (cellPixels v n ly).length = 8 := by
  unfold cellPixels
  split
  · simp [standardTextPixels]
  · unfold multicolourTextPixels; dsimp only; split <;> simp
  · simp [extendedTextPixels]
  · simp [standardBitmapPixels]
  · simp [multicolourBitmapPixels]
  · simp

/-- Eight pixels pack into four bytes, byte j holding pixels 2j and 2j + 1. -/
theorem packPixels_eight (ps : List Colour) (h : ps.length = 8) :
    (packPixels ps).length = 4 ∧
      ∀ j, j < 4 → (packPixels ps)[j]? = some (ps[2 * j]?.getD 0#4 ++ ps[2 * j + 1]?.getD 0#4) := by
  match ps, h with
  | [_, _, _, _, _, _, _, _], _ =>
    refine ⟨rfl, fun j hj => ?_⟩
    have : j = 0 ∨ j = 1 ∨ j = 2 ∨ j = 3 := by omega
    rcases this with rfl | rfl | rfl | rfl <;> rfl

theorem flatMap_four_get {α β : Type} (f : α → List β) (xs : List α) (hf : ∀ x, (f x).length = 4) (i : Nat) {j : Nat}
    (hj : j < 4) : (xs.flatMap f)[4 * i + j]? = xs[i]?.bind (fun x => (f x)[j]?) := by
  induction xs generalizing i with
  | nil => simp
  | cons x xs ih =>
    rw [List.flatMap_cons]
    cases i with
    | zero => rw [List.getElem?_append_left (by rw [hf]; omega)]; simp
    | succ i =>
      rw [List.getElem?_append_right (by rw [hf]; omega), hf, show 4 * (i + 1) + j - 4 = 4 * i + j by omega, ih]
      simp

@[simp] theorem rowBytes_length (v : VideoSource) (y : Nat) : (rowBytes v y).length = 160 := by
  unfold rowBytes
  rw [List.length_flatMap]
  simp [fun n ly => (packPixels_eight _ (cellPixels_length v n ly)).1]

/-- Byte j of a row: pixels 2 (j mod 4) and the next of cell j / 4. -/
theorem rowBytes_get (v : VideoSource) (y : Nat) {j : Nat} (hj : j < 160) :
    (rowBytes v y)[j]? =
      some
        ((cellPixels v (y / 8 * 40 + j / 4) (y % 8))[2 * (j % 4)]?.getD 0#4 ++
          (cellPixels v (y / 8 * 40 + j / 4) (y % 8))[2 * (j % 4) + 1]?.getD 0#4) := by
  unfold rowBytes
  have hd : j = 4 * (j / 4) + j % 4 := by omega
  rw [hd, flatMap_four_get _ _ (fun x => (packPixels_eight _ (cellPixels_length v _ _)).1) _ (by omega)]
  rw [List.getElem?_range (by omega)]
  simp only [Option.bind_some]
  rw [(packPixels_eight _ (cellPixels_length v _ _)).2 _ (by omega), ← hd]

/-- A rendered row keeps the framebuffer canonical. -/
theorem wf_renderRow {fb : Memory} (v : VideoSource) {y : Nat} (hy : y < 200) (h : fb.wf fbSize = true) :
    (renderRow v y fb).wf fbSize = true :=
  wf_writeBlock _ h (by rw [rowBytes_length]; unfold fbSize; omega)

/-- A rendered row leaves the other rows alone. -/
theorem read_renderRow_outside {fb : Memory} (v : VideoSource) {y j : Nat} (h : j < y * 160 ∨ y * 160 + 160 ≤ j) :
    (renderRow v y fb).read j = fb.read j :=
  read_writeBlock_outside _ (by rw [rowBytes_length]; exact h)

/-- What a rendered row's bytes read as. -/
theorem read_renderRow_inside {fb : Memory} (v : VideoSource) {y j : Nat} (hy : y < 200) (hj : j < 160)
    (h : fb.wf fbSize = true) : (rowBytes v y)[j]? = some ((renderRow v y fb).read (y * 160 + j)) := by
  rw [renderRow, read_writeBlock_inside (size := fbSize) h (by rw [rowBytes_length]; unfold fbSize; omega)
    (by rw [rowBytes_length]; exact hj)]
  exact List.getElem?_eq_getElem (by rw [rowBytes_length]; exact hj)

@[simp] theorem videoSource_bankBase (s : State) : (videoSource s).bankBase = bankBase s.cia2 := rfl

@[simp] theorem videoSource_ram (s : State) : (videoSource s).ram = s.ram := rfl

@[simp] theorem videoSource_r (s : State) : (videoSource s).r = s.vic.r := rfl

@[simp] theorem videoSource_charRom (s : State) : (videoSource s).charRom = Config.charRom := rfl

theorem wf_renderIfVisible {p : VideoParams} {fb : Memory} (src : VideoSource) (v : Vic) (h : fb.wf fbSize = true) :
    (renderIfVisible p src v fb).wf fbSize = true := by
  unfold renderIfVisible
  split
  · next hv =>
    refine wf_renderRow src ?_ h
    simp only [lineVisible, Bool.and_eq_true, decide_eq_true_eq] at hv
    omega
  · exact h

theorem wf_vicClk_fb {s : State} (h : s.fb.wf fbSize = true) : (vicClk s).fb.wf fbSize = true := by
  unfold vicClk
  dsimp only
  split
  · exact wf_renderIfVisible _ _ h
  · exact h

@[simp] theorem compareRaster_line (v : Vic) : (compareRaster v).line = v.line := by unfold compareRaster; split <;> rfl

@[simp] theorem compareRaster_cycle (v : Vic) : (compareRaster v).cycle = v.cycle := by unfold compareRaster; split <;> rfl

@[simp] theorem compareRaster_w (v : Vic) : (compareRaster v).w = v.w := by unfold compareRaster; split <;> rfl

theorem compareRaster_read {j : BitVec 6} (v : Vic) (h : j ≠ 0x19#6) : (compareRaster v).r.read j = v.r.read j := by
  unfold compareRaster
  split
  · exact read_write_other _ _ _ _ h
  · rfl

theorem compareRaster_flag (v : Vic) :
    (compareRaster v).r.read 0x19#6 =
      if rasterMatch v then vicFlagRaise (v.r.read 0x19#6) else v.r.read 0x19#6 := by
  unfold compareRaster
  split <;> simp

/-- Within a line a tick only counts. -/
theorem vicTick_within {p : VideoParams} {v : Vic} (h : v.cycle + 1 < p.cyclesPerLine) :
    vicTick p v = { v with cycle := v.cycle + 1 } := by
  rw [vicTick, if_neg]
  simp only [lineEnds, decide_eq_true_eq]
  omega

/-- At the end of a line a tick advances the scanline and compares it. -/
theorem vicTick_lineEnd {p : VideoParams} {v : Vic} (h : p.cyclesPerLine ≤ v.cycle + 1) :
    vicTick p v = compareRaster (advanceLine p v) := by
  rw [vicTick, if_pos]
  simpa [lineEnds] using h

/-- The scanline as a number after an advance. -/
theorem advanceLine_line {p : VideoParams} (v : Vic) (h0 : 0 < p.totalLines) (h : p.totalLines ≤ 512) :
    (advanceLine p v).line.toNat = (v.line.toNat + 1) % p.totalLines := by
  have := Nat.mod_lt (v.line.toNat + 1) h0
  simp only [advanceLine, BitVec.toNat_ofNat]
  omega

/-- The bounds of the frame's height (00_scope.md R13). -/
theorem totalLines_bounds : 2 ≤ Config.totalLines ∧ Config.totalLines ≤ 512 := by
  unfold Config.totalLines
  have := Config.totalLinesPred.isLt
  omega

end Sys2Proof.Machine
end

