-- ==== Sys2Proof/Laws/State.lean ====
section
/-! SUPPORT. One lemma per field of State per named update: what the update does to it. -/

namespace Sys2Proof.Machine

@[simp] theorem openCycle_ram (s : State) : (openCycle s).ram = s.ram := rfl
@[simp] theorem openCycle_vis (s : State) : (openCycle s).vis = s.vis := rfl
@[simp] theorem openCycle_cia1 (s : State) : (openCycle s).cia1 = s.cia1 := rfl
@[simp] theorem openCycle_cia2 (s : State) : (openCycle s).cia2 = s.cia2 := rfl
@[simp] theorem openCycle_vic (s : State) : (openCycle s).vic = s.vic := rfl
@[simp] theorem openCycle_fb (s : State) : (openCycle s).fb = s.fb := rfl
@[simp] theorem openCycle_rstLeft (s : State) : (openCycle s).rstLeft = s.rstLeft := rfl
@[simp] theorem openCycle_inp (s : State) : (openCycle s).inp = s.inp := rfl
@[simp] theorem openCycle_out (s : State) : (openCycle s).out = { s.out with dout := none, sidWr := none } := rfl
@[simp] theorem openCycle_irqSeen (s : State) : (openCycle s).irqSeen = s.irqSeen := rfl
@[simp] theorem openCycle_everReset (s : State) : (openCycle s).everReset = s.everReset := rfl
@[simp] theorem openCycle_calls (s : State) : (openCycle s).calls = s.calls := rfl
@[simp] theorem openCycle_drawn (s : State) : (openCycle s).drawn = s.drawn := rfl
@[simp] theorem openCycle_cia (s : State) (j : CiaId) : (openCycle s).cia j = s.cia j := by
  cases j <;> simp [State.cia]

@[simp] theorem answer_ram (v : Byte) (s : State) : (answer v s).ram = s.ram := rfl
@[simp] theorem answer_vis (v : Byte) (s : State) : (answer v s).vis = s.vis := rfl
@[simp] theorem answer_cia1 (v : Byte) (s : State) : (answer v s).cia1 = s.cia1 := rfl
@[simp] theorem answer_cia2 (v : Byte) (s : State) : (answer v s).cia2 = s.cia2 := rfl
@[simp] theorem answer_vic (v : Byte) (s : State) : (answer v s).vic = s.vic := rfl
@[simp] theorem answer_fb (v : Byte) (s : State) : (answer v s).fb = s.fb := rfl
@[simp] theorem answer_rstLeft (v : Byte) (s : State) : (answer v s).rstLeft = s.rstLeft := rfl
@[simp] theorem answer_inp (v : Byte) (s : State) : (answer v s).inp = s.inp := rfl
@[simp] theorem answer_out (v : Byte) (s : State) : (answer v s).out = { s.out with dout := some v } := rfl
@[simp] theorem answer_irqSeen (v : Byte) (s : State) : (answer v s).irqSeen = s.irqSeen := rfl
@[simp] theorem answer_everReset (v : Byte) (s : State) : (answer v s).everReset = s.everReset := rfl
@[simp] theorem answer_calls (v : Byte) (s : State) : (answer v s).calls = s.calls := rfl
@[simp] theorem answer_drawn (v : Byte) (s : State) : (answer v s).drawn = s.drawn := rfl
@[simp] theorem answer_cia (v : Byte) (s : State) (j : CiaId) : (answer v s).cia j = s.cia j := by
  cases j <;> simp [State.cia]

@[simp] theorem storeRam_ram (a : Addr) (s : State) : (storeRam a s).ram = s.ram.write a.toNat s.inp.d := rfl
@[simp] theorem storeRam_vis (a : Addr) (s : State) : (storeRam a s).vis = s.vis := rfl
@[simp] theorem storeRam_cia1 (a : Addr) (s : State) : (storeRam a s).cia1 = s.cia1 := rfl
@[simp] theorem storeRam_cia2 (a : Addr) (s : State) : (storeRam a s).cia2 = s.cia2 := rfl
@[simp] theorem storeRam_vic (a : Addr) (s : State) : (storeRam a s).vic = s.vic := rfl
@[simp] theorem storeRam_fb (a : Addr) (s : State) : (storeRam a s).fb = s.fb := rfl
@[simp] theorem storeRam_rstLeft (a : Addr) (s : State) : (storeRam a s).rstLeft = s.rstLeft := rfl
@[simp] theorem storeRam_inp (a : Addr) (s : State) : (storeRam a s).inp = s.inp := rfl
@[simp] theorem storeRam_out (a : Addr) (s : State) : (storeRam a s).out = s.out := rfl
@[simp] theorem storeRam_irqSeen (a : Addr) (s : State) : (storeRam a s).irqSeen = s.irqSeen := rfl
@[simp] theorem storeRam_everReset (a : Addr) (s : State) : (storeRam a s).everReset = s.everReset := rfl
@[simp] theorem storeRam_calls (a : Addr) (s : State) : (storeRam a s).calls = s.calls := rfl
@[simp] theorem storeRam_drawn (a : Addr) (s : State) : (storeRam a s).drawn = s.drawn := rfl
@[simp] theorem storeRam_cia (a : Addr) (s : State) (j : CiaId) : (storeRam a s).cia j = s.cia j := by
  cases j <;> simp [State.cia]

@[simp] theorem deliverSid_ram (a : Addr) (s : State) : (deliverSid a s).ram = s.ram := rfl
@[simp] theorem deliverSid_vis (a : Addr) (s : State) : (deliverSid a s).vis = s.vis := rfl
@[simp] theorem deliverSid_cia1 (a : Addr) (s : State) : (deliverSid a s).cia1 = s.cia1 := rfl
@[simp] theorem deliverSid_cia2 (a : Addr) (s : State) : (deliverSid a s).cia2 = s.cia2 := rfl
@[simp] theorem deliverSid_vic (a : Addr) (s : State) : (deliverSid a s).vic = s.vic := rfl
@[simp] theorem deliverSid_fb (a : Addr) (s : State) : (deliverSid a s).fb = s.fb := rfl
@[simp] theorem deliverSid_rstLeft (a : Addr) (s : State) : (deliverSid a s).rstLeft = s.rstLeft := rfl
@[simp] theorem deliverSid_inp (a : Addr) (s : State) : (deliverSid a s).inp = s.inp := rfl
@[simp] theorem deliverSid_out (a : Addr) (s : State) : (deliverSid a s).out = { s.out with sidWr := some (a, s.inp.d) } := rfl
@[simp] theorem deliverSid_irqSeen (a : Addr) (s : State) : (deliverSid a s).irqSeen = s.irqSeen := rfl
@[simp] theorem deliverSid_everReset (a : Addr) (s : State) : (deliverSid a s).everReset = s.everReset := rfl
@[simp] theorem deliverSid_calls (a : Addr) (s : State) : (deliverSid a s).calls = s.calls := rfl
@[simp] theorem deliverSid_drawn (a : Addr) (s : State) : (deliverSid a s).drawn = s.drawn := rfl
@[simp] theorem deliverSid_cia (a : Addr) (s : State) (j : CiaId) : (deliverSid a s).cia j = s.cia j := by
  cases j <;> simp [State.cia]

@[simp] theorem setVicReg_ram (i : BitVec 6) (v : Byte) (s : State) : (setVicReg i v s).ram = s.ram := rfl
@[simp] theorem setVicReg_vis (i : BitVec 6) (v : Byte) (s : State) : (setVicReg i v s).vis = s.vis := rfl
@[simp] theorem setVicReg_cia1 (i : BitVec 6) (v : Byte) (s : State) : (setVicReg i v s).cia1 = s.cia1 := rfl
@[simp] theorem setVicReg_cia2 (i : BitVec 6) (v : Byte) (s : State) : (setVicReg i v s).cia2 = s.cia2 := rfl
@[simp] theorem setVicReg_vic (i : BitVec 6) (v : Byte) (s : State) : (setVicReg i v s).vic = { s.vic with r := s.vic.r.write i v } := rfl
@[simp] theorem setVicReg_fb (i : BitVec 6) (v : Byte) (s : State) : (setVicReg i v s).fb = s.fb := rfl
@[simp] theorem setVicReg_rstLeft (i : BitVec 6) (v : Byte) (s : State) : (setVicReg i v s).rstLeft = s.rstLeft := rfl
@[simp] theorem setVicReg_inp (i : BitVec 6) (v : Byte) (s : State) : (setVicReg i v s).inp = s.inp := rfl
@[simp] theorem setVicReg_out (i : BitVec 6) (v : Byte) (s : State) : (setVicReg i v s).out = s.out := rfl
@[simp] theorem setVicReg_irqSeen (i : BitVec 6) (v : Byte) (s : State) : (setVicReg i v s).irqSeen = s.irqSeen := rfl
@[simp] theorem setVicReg_everReset (i : BitVec 6) (v : Byte) (s : State) : (setVicReg i v s).everReset = s.everReset := rfl
@[simp] theorem setVicReg_calls (i : BitVec 6) (v : Byte) (s : State) : (setVicReg i v s).calls = s.calls := rfl
@[simp] theorem setVicReg_drawn (i : BitVec 6) (v : Byte) (s : State) : (setVicReg i v s).drawn = s.drawn := rfl
@[simp] theorem setVicReg_cia (i : BitVec 6) (v : Byte) (s : State) (j : CiaId) : (setVicReg i v s).cia j = s.cia j := by
  cases j <;> simp [State.cia]

@[simp] theorem setVicLatch_ram (i : BitVec 6) (v : Byte) (s : State) : (setVicLatch i v s).ram = s.ram := rfl
@[simp] theorem setVicLatch_vis (i : BitVec 6) (v : Byte) (s : State) : (setVicLatch i v s).vis = s.vis := rfl
@[simp] theorem setVicLatch_cia1 (i : BitVec 6) (v : Byte) (s : State) : (setVicLatch i v s).cia1 = s.cia1 := rfl
@[simp] theorem setVicLatch_cia2 (i : BitVec 6) (v : Byte) (s : State) : (setVicLatch i v s).cia2 = s.cia2 := rfl
@[simp] theorem setVicLatch_vic (i : BitVec 6) (v : Byte) (s : State) : (setVicLatch i v s).vic = { s.vic with w := s.vic.w.write i v } := rfl
@[simp] theorem setVicLatch_fb (i : BitVec 6) (v : Byte) (s : State) : (setVicLatch i v s).fb = s.fb := rfl
@[simp] theorem setVicLatch_rstLeft (i : BitVec 6) (v : Byte) (s : State) : (setVicLatch i v s).rstLeft = s.rstLeft := rfl
@[simp] theorem setVicLatch_inp (i : BitVec 6) (v : Byte) (s : State) : (setVicLatch i v s).inp = s.inp := rfl
@[simp] theorem setVicLatch_out (i : BitVec 6) (v : Byte) (s : State) : (setVicLatch i v s).out = s.out := rfl
@[simp] theorem setVicLatch_irqSeen (i : BitVec 6) (v : Byte) (s : State) : (setVicLatch i v s).irqSeen = s.irqSeen := rfl
@[simp] theorem setVicLatch_everReset (i : BitVec 6) (v : Byte) (s : State) : (setVicLatch i v s).everReset = s.everReset := rfl
@[simp] theorem setVicLatch_calls (i : BitVec 6) (v : Byte) (s : State) : (setVicLatch i v s).calls = s.calls := rfl
@[simp] theorem setVicLatch_drawn (i : BitVec 6) (v : Byte) (s : State) : (setVicLatch i v s).drawn = s.drawn := rfl
@[simp] theorem setVicLatch_cia (i : BitVec 6) (v : Byte) (s : State) (j : CiaId) : (setVicLatch i v s).cia j = s.cia j := by
  cases j <;> simp [State.cia]

@[simp] theorem recomputeVisibility_ram (s : State) : (recomputeVisibility s).ram = s.ram := rfl
@[simp] theorem recomputeVisibility_vis (s : State) : (recomputeVisibility s).vis = visibilityOf (modeOf s) := rfl
@[simp] theorem recomputeVisibility_cia1 (s : State) : (recomputeVisibility s).cia1 = s.cia1 := rfl
@[simp] theorem recomputeVisibility_cia2 (s : State) : (recomputeVisibility s).cia2 = s.cia2 := rfl
@[simp] theorem recomputeVisibility_vic (s : State) : (recomputeVisibility s).vic = s.vic := rfl
@[simp] theorem recomputeVisibility_fb (s : State) : (recomputeVisibility s).fb = s.fb := rfl
@[simp] theorem recomputeVisibility_rstLeft (s : State) : (recomputeVisibility s).rstLeft = s.rstLeft := rfl
@[simp] theorem recomputeVisibility_inp (s : State) : (recomputeVisibility s).inp = s.inp := rfl
@[simp] theorem recomputeVisibility_out (s : State) : (recomputeVisibility s).out = s.out := rfl
@[simp] theorem recomputeVisibility_irqSeen (s : State) : (recomputeVisibility s).irqSeen = s.irqSeen := rfl
@[simp] theorem recomputeVisibility_everReset (s : State) : (recomputeVisibility s).everReset = s.everReset := rfl
@[simp] theorem recomputeVisibility_calls (s : State) : (recomputeVisibility s).calls = s.calls := rfl
@[simp] theorem recomputeVisibility_drawn (s : State) : (recomputeVisibility s).drawn = s.drawn := rfl
@[simp] theorem recomputeVisibility_cia (s : State) (j : CiaId) : (recomputeVisibility s).cia j = s.cia j := by
  cases j <;> simp [State.cia]

@[simp] theorem vicClk_ram (s : State) : (vicClk s).ram = s.ram := rfl
@[simp] theorem vicClk_vis (s : State) : (vicClk s).vis = s.vis := rfl
@[simp] theorem vicClk_cia1 (s : State) : (vicClk s).cia1 = s.cia1 := rfl
@[simp] theorem vicClk_cia2 (s : State) : (vicClk s).cia2 = s.cia2 := rfl
@[simp] theorem vicClk_vic (s : State) : (vicClk s).vic = vicTick videoParams s.vic := rfl
@[simp] theorem vicClk_rstLeft (s : State) : (vicClk s).rstLeft = s.rstLeft := rfl
@[simp] theorem vicClk_inp (s : State) : (vicClk s).inp = s.inp := rfl
@[simp] theorem vicClk_out (s : State) : (vicClk s).out = s.out := rfl
@[simp] theorem vicClk_irqSeen (s : State) : (vicClk s).irqSeen = s.irqSeen := rfl
@[simp] theorem vicClk_everReset (s : State) : (vicClk s).everReset = s.everReset := rfl
@[simp] theorem vicClk_calls (s : State) : (vicClk s).calls = s.calls := rfl
@[simp] theorem vicClk_drawn (s : State) : (vicClk s).drawn = s.drawn := rfl
@[simp] theorem vicClk_cia (s : State) (j : CiaId) : (vicClk s).cia j = s.cia j := by
  cases j <;> simp [State.cia]

@[simp] theorem setCia_ram (k : CiaId) (c : Cia) (s : State) : (s.setCia k c).ram = s.ram := by cases k <;> rfl
@[simp] theorem setCia_vis (k : CiaId) (c : Cia) (s : State) : (s.setCia k c).vis = s.vis := by cases k <;> rfl
@[simp] theorem setCia_vic (k : CiaId) (c : Cia) (s : State) : (s.setCia k c).vic = s.vic := by cases k <;> rfl
@[simp] theorem setCia_fb (k : CiaId) (c : Cia) (s : State) : (s.setCia k c).fb = s.fb := by cases k <;> rfl
@[simp] theorem setCia_rstLeft (k : CiaId) (c : Cia) (s : State) : (s.setCia k c).rstLeft = s.rstLeft := by cases k <;> rfl
@[simp] theorem setCia_inp (k : CiaId) (c : Cia) (s : State) : (s.setCia k c).inp = s.inp := by cases k <;> rfl
@[simp] theorem setCia_out (k : CiaId) (c : Cia) (s : State) : (s.setCia k c).out = s.out := by cases k <;> rfl
@[simp] theorem setCia_irqSeen (k : CiaId) (c : Cia) (s : State) : (s.setCia k c).irqSeen = s.irqSeen := by cases k <;> rfl
@[simp] theorem setCia_everReset (k : CiaId) (c : Cia) (s : State) : (s.setCia k c).everReset = s.everReset := by cases k <;> rfl
@[simp] theorem setCia_calls (k : CiaId) (c : Cia) (s : State) : (s.setCia k c).calls = s.calls := by cases k <;> rfl
@[simp] theorem setCia_drawn (k : CiaId) (c : Cia) (s : State) : (s.setCia k c).drawn = s.drawn := by cases k <;> rfl

@[simp] theorem ciaClk_ram (k : CiaId) (s : State) : (ciaClk k s).ram = s.ram := by cases k <;> rfl
@[simp] theorem ciaClk_vis (k : CiaId) (s : State) : (ciaClk k s).vis = s.vis := by cases k <;> rfl
@[simp] theorem ciaClk_vic (k : CiaId) (s : State) : (ciaClk k s).vic = s.vic := by cases k <;> rfl
@[simp] theorem ciaClk_fb (k : CiaId) (s : State) : (ciaClk k s).fb = s.fb := by cases k <;> rfl
@[simp] theorem ciaClk_rstLeft (k : CiaId) (s : State) : (ciaClk k s).rstLeft = s.rstLeft := by cases k <;> rfl
@[simp] theorem ciaClk_inp (k : CiaId) (s : State) : (ciaClk k s).inp = s.inp := by cases k <;> rfl
@[simp] theorem ciaClk_out (k : CiaId) (s : State) : (ciaClk k s).out = s.out := by cases k <;> rfl
@[simp] theorem ciaClk_irqSeen (k : CiaId) (s : State) : (ciaClk k s).irqSeen = s.irqSeen := by cases k <;> rfl
@[simp] theorem ciaClk_everReset (k : CiaId) (s : State) : (ciaClk k s).everReset = s.everReset := by cases k <;> rfl
@[simp] theorem ciaClk_calls (k : CiaId) (s : State) : (ciaClk k s).calls = s.calls := by cases k <;> rfl
@[simp] theorem ciaClk_drawn (k : CiaId) (s : State) : (ciaClk k s).drawn = s.drawn := by cases k <;> rfl

@[simp] theorem takeCall_ram (s : State) : (takeCall s).ram = s.ram := by unfold takeCall; split <;> rfl
@[simp] theorem takeCall_vis (s : State) : (takeCall s).vis = s.vis := by unfold takeCall; split <;> rfl
@[simp] theorem takeCall_cia1 (s : State) : (takeCall s).cia1 = s.cia1 := by unfold takeCall; split <;> rfl
@[simp] theorem takeCall_cia2 (s : State) : (takeCall s).cia2 = s.cia2 := by unfold takeCall; split <;> rfl
@[simp] theorem takeCall_vic (s : State) : (takeCall s).vic = s.vic := by unfold takeCall; split <;> rfl
@[simp] theorem takeCall_fb (s : State) : (takeCall s).fb = s.fb := by unfold takeCall; split <;> rfl
@[simp] theorem takeCall_rstLeft (s : State) : (takeCall s).rstLeft = s.rstLeft := by unfold takeCall; split <;> rfl
@[simp] theorem takeCall_inp (s : State) : (takeCall s).inp = s.inp := by unfold takeCall; split <;> rfl
@[simp] theorem takeCall_out (s : State) : (takeCall s).out = s.out := by unfold takeCall; split <;> rfl
@[simp] theorem takeCall_irqSeen (s : State) : (takeCall s).irqSeen = s.irqSeen := by unfold takeCall; split <;> rfl
@[simp] theorem takeCall_everReset (s : State) : (takeCall s).everReset = s.everReset := by unfold takeCall; split <;> rfl
@[simp] theorem takeCall_cia (s : State) (j : CiaId) : (takeCall s).cia j = s.cia j := by
  cases j <;> simp [State.cia]

@[simp] theorem latchInputs_ram (c : HostCall) (s : State) : (latchInputs c s).ram = s.ram := by cases c <;> rfl
@[simp] theorem latchInputs_vis (c : HostCall) (s : State) : (latchInputs c s).vis = s.vis := by cases c <;> rfl
@[simp] theorem latchInputs_cia1 (c : HostCall) (s : State) : (latchInputs c s).cia1 = s.cia1 := by cases c <;> rfl
@[simp] theorem latchInputs_cia2 (c : HostCall) (s : State) : (latchInputs c s).cia2 = s.cia2 := by cases c <;> rfl
@[simp] theorem latchInputs_vic (c : HostCall) (s : State) : (latchInputs c s).vic = s.vic := by cases c <;> rfl
@[simp] theorem latchInputs_fb (c : HostCall) (s : State) : (latchInputs c s).fb = s.fb := by cases c <;> rfl
@[simp] theorem latchInputs_rstLeft (c : HostCall) (s : State) : (latchInputs c s).rstLeft = s.rstLeft := by cases c <;> rfl
@[simp] theorem latchInputs_out (c : HostCall) (s : State) : (latchInputs c s).out = s.out := by cases c <;> rfl
@[simp] theorem latchInputs_irqSeen (c : HostCall) (s : State) : (latchInputs c s).irqSeen = s.irqSeen := by cases c <;> rfl
@[simp] theorem latchInputs_everReset (c : HostCall) (s : State) : (latchInputs c s).everReset = s.everReset := by cases c <;> rfl
@[simp] theorem latchInputs_calls (c : HostCall) (s : State) : (latchInputs c s).calls = s.calls := by cases c <;> rfl
@[simp] theorem latchInputs_drawn (c : HostCall) (s : State) : (latchInputs c s).drawn = s.drawn := by cases c <;> rfl
@[simp] theorem latchInputs_cia (c : HostCall) (s : State) (j : CiaId) : (latchInputs c s).cia j = s.cia j := by
  cases j <;> simp [State.cia]

@[simp] theorem emit_ram (n r : Bool) (s : State) : (emit n r s).ram = s.ram := rfl
@[simp] theorem emit_vis (n r : Bool) (s : State) : (emit n r s).vis = s.vis := rfl
@[simp] theorem emit_cia1 (n r : Bool) (s : State) : (emit n r s).cia1 = s.cia1 := rfl
@[simp] theorem emit_cia2 (n r : Bool) (s : State) : (emit n r s).cia2 = s.cia2 := rfl
@[simp] theorem emit_vic (n r : Bool) (s : State) : (emit n r s).vic = s.vic := rfl
@[simp] theorem emit_fb (n r : Bool) (s : State) : (emit n r s).fb = s.fb := rfl
@[simp] theorem emit_rstLeft (n r : Bool) (s : State) : (emit n r s).rstLeft = s.rstLeft := rfl
@[simp] theorem emit_inp (n r : Bool) (s : State) : (emit n r s).inp = s.inp := rfl
@[simp] theorem emit_irqSeen (n r : Bool) (s : State) : (emit n r s).irqSeen = irqLine s := rfl
@[simp] theorem emit_everReset (n r : Bool) (s : State) : (emit n r s).everReset = s.everReset := rfl
@[simp] theorem emit_calls (n r : Bool) (s : State) : (emit n r s).calls = s.calls := rfl
@[simp] theorem emit_drawn (n r : Bool) (s : State) : (emit n r s).drawn = s.drawn := rfl
@[simp] theorem emit_cia (n r : Bool) (s : State) (j : CiaId) : (emit n r s).cia j = s.cia j := by
  cases j <;> simp [State.cia]

@[simp] theorem setCia_cia_same (s : State) (k : CiaId) (c : Cia) : (s.setCia k c).cia k = c := by cases k <;> rfl

theorem setCia_cia_other (s : State) (j k : CiaId) (c : Cia) (h : j ≠ k) : (s.setCia k c).cia j = s.cia j := by
  cases j <;> cases k <;> first | rfl | exact absurd rfl h

/-- Putting back what CIA k was undoes `setCia`: everything else is as before. -/
@[simp] theorem setCia_setCia (s : State) (k : CiaId) (c d : Cia) : (s.setCia k c).setCia k d = s.setCia k d := by
  cases k <;> rfl

@[simp] theorem setCia_self (s : State) (k : CiaId) : s.setCia k (s.cia k) = s := by cases k <;> rfl

@[simp] theorem cia_cia1 (s : State) : s.cia .cia1 = s.cia1 := rfl

@[simp] theorem cia_cia2 (s : State) : s.cia .cia2 = s.cia2 := rfl

@[simp] theorem setCia_cia1 (s : State) (c : Cia) : s.setCia .cia1 c = { s with cia1 := c } := rfl

@[simp] theorem setCia_cia2 (s : State) (c : Cia) : s.setCia .cia2 c = { s with cia2 := c } := rfl

@[simp] theorem ciaClk_cia_same (k : CiaId) (s : State) : (ciaClk k s).cia k = ciaTick (s.cia k) := by simp [ciaClk]

theorem ciaClk_cia_other (j k : CiaId) (s : State) (h : j ≠ k) : (ciaClk k s).cia j = s.cia j := by
  unfold ciaClk; exact setCia_cia_other s j k _ h

/-- The framebuffer after a VIC tick: the new line's render, or what it was. -/
theorem vicClk_fb (s : State) :
    (vicClk s).fb =
      if lineEnds videoParams s.vic then
        renderIfVisible videoParams (videoSource s) (vicTick videoParams s.vic) s.fb
      else s.fb := rfl

/-- The outputs at the end of a CLK. -/
theorem emit_out (n r : Bool) (s : State) :
    (emit n r s).out =
      { s.out with
        irq := irqLine s
        nmiEdge := n
        res := r
        signalIrq := if irqLine s == s.irqSeen then none else some (irqLine s)
        signalNmi := if n then [true, false] else [] } := rfl

/-! ### The state before the access of a normal CLK -/

@[simp] theorem tickDevices_ram (s : State) : (tickDevices s).ram = s.ram := rfl
@[simp] theorem tickDevices_vis (s : State) : (tickDevices s).vis = visibilityOf (modeOf s) := rfl
@[simp] theorem tickDevices_cia1 (s : State) : (tickDevices s).cia1 = ciaTick s.cia1 := rfl
@[simp] theorem tickDevices_cia2 (s : State) : (tickDevices s).cia2 = ciaTick s.cia2 := rfl
@[simp] theorem tickDevices_vic (s : State) : (tickDevices s).vic = vicTick videoParams s.vic := rfl
@[simp] theorem tickDevices_fb (s : State) : (tickDevices s).fb = (vicClk s).fb := rfl
@[simp] theorem tickDevices_rstLeft (s : State) : (tickDevices s).rstLeft = s.rstLeft := rfl
@[simp] theorem tickDevices_inp (s : State) : (tickDevices s).inp = s.inp := rfl
@[simp] theorem tickDevices_out (s : State) : (tickDevices s).out = s.out := rfl
@[simp] theorem tickDevices_irqSeen (s : State) : (tickDevices s).irqSeen = s.irqSeen := rfl
@[simp] theorem tickDevices_everReset (s : State) : (tickDevices s).everReset = s.everReset := rfl
@[simp] theorem tickDevices_calls (s : State) : (tickDevices s).calls = s.calls := rfl
@[simp] theorem tickDevices_drawn (s : State) : (tickDevices s).drawn = s.drawn := rfl

@[simp] theorem tickDevices_cia (s : State) (k : CiaId) : (tickDevices s).cia k = ciaTick (s.cia k) := by cases k <;> rfl

/-- No tick writes RAM, so the mode of a CLK is that of its start (44_bus_arbiter.md R352). -/
@[simp] theorem modeOf_tickDevices (s : State) : modeOf (tickDevices s) = modeOf s := rfl

@[simp] theorem cycleWord_tickDevices (s : State) : cycleWord (tickDevices s) = cycleWord s := rfl

@[simp] theorem irqLine_emit (n r : Bool) (s : State) : irqLine (emit n r s) = irqLine s := rfl

@[simp] theorem irqLine_openCycle (s : State) : irqLine (openCycle s) = irqLine s := rfl

@[simp] theorem irqLine_answer (v : Byte) (s : State) : irqLine (answer v s) = irqLine s := rfl

end Sys2Proof.Machine
end

