-- ==== Sys2Proof/Laws/Run.lean ====
section
/-! SUPPORT. What a register access, a routed cycle and a CLK can do, said once for each: proofs about steps cite these and do not
unfold the dispatch. -/

namespace Sys2Proof.Machine

/-- Every select word of a CIA is a row's (30_encoding.md R158). -/
theorem lookup_ciaRows_isSome : ∀ w : BitVec 6, (lookupRow ciaRows w).isSome = true := by decide +kernel

/-- Every select word of the VIC is a row's (30_encoding.md R158). -/
theorem lookup_vicRows_isSome : ∀ w : BitVec 7, (lookupRow vicRows w).isSome = true := by decide +kernel

theorem lookup_page_isSome : ∀ (rw : Bool) (m : BitVec 3) (h : BitVec 8),
    (lookupRow busRows (busWord rw m (h ++ 0x00#8))).isSome = true := by
  decide +kernel

/-- The shape of what an operation on CIA k answers: that CIA and the byte driven are all that can differ. -/
def ciaResult (k : CiaId) (c : Cia) (d : Option Byte) (s : State) : State :=
  { s.setCia k c with out := { s.out with dout := d } }

theorem ciaResult_answer (v : Byte) (k : CiaId) (s : State) : ciaResult k (s.cia k) (some v) s = answer v s := by
  cases k <;> rfl

theorem ciaResult_setCia (k : CiaId) (c : Cia) (s : State) : ciaResult k c s.out.dout s = s.setCia k c := by
  cases k <;> rfl

theorem ciaResult_both (v : Byte) (k : CiaId) (c : Cia) (s : State) :
    ciaResult k c (some v) s = answer v (s.setCia k c) := by
  cases k <;> rfl

/-- The operation on CIA k leaves all of the state but that CIA and the byte driven. -/
theorem runCia_next (op : CiaOp) (k : CiaId) (s : State) : ∃ c d, runCia op k s = .next (ciaResult k c d s) := by
  cases op <;> first
    | exact ⟨_, _, congrArg _ (ciaResult_answer _ k s).symm⟩
    | exact ⟨_, _, congrArg _ (ciaResult_setCia k _ s).symm⟩
    | exact ⟨_, _, congrArg _ (ciaResult_both _ k _ s).symm⟩

/-- A register access of CIA k completes, and leaves all of the state but that CIA and the byte driven. -/
theorem ciaAccess_next (k : CiaId) (rw : Bool) (a : Addr) (s : State) :
    ∃ c d, ciaAccess k rw a s = .next (ciaResult k c d s) := by
  obtain ⟨op, hop⟩ := Option.isSome_iff_exists.mp (lookup_ciaRows_isSome (ciaWord k rw (ciaIndex a)))
  obtain ⟨c, d, h⟩ := runCia_next op k s
  exact ⟨c, d, by simp only [ciaAccess, hop, h]⟩

/-- The operation on the VIC leaves all of the state but its two register sets and the byte driven. -/
theorem runVic_next (op : VicOp) (i : BitVec 6) (s : State) :
    ∃ r w d, runVic op i s = .next { s with vic := { s.vic with r := r, w := w }, out := { s.out with dout := d } } := by
  cases op <;> first
    | exact ⟨s.vic.r, s.vic.w, some _, rfl⟩
    | exact ⟨_, s.vic.w, some _, rfl⟩
    | exact ⟨s.vic.r, s.vic.w, s.out.dout, rfl⟩
    | exact ⟨_, _, s.out.dout, rfl⟩

/-- A register access of the VIC completes, and leaves all of the state but its two register sets and the byte driven. -/
theorem vicAccess_next (rw : Bool) (a : Addr) (s : State) :
    ∃ r w d, vicAccess rw a s = .next { s with vic := { s.vic with r := r, w := w }, out := { s.out with dout := d } } := by
  obtain ⟨op, hop⟩ := Option.isSome_iff_exists.mp (lookup_vicRows_isSome (vicWord rw (vicIndexOf a)))
  obtain ⟨r, w, d, h⟩ := runVic_next op (vicIndexOf a) s
  exact ⟨r, w, d, by simp only [vicAccess, hop, h]⟩

/-- What a routed bus cycle leaves alone. -/
structure RoutedFrame (s t : State) : Prop where
  vis : t.vis = s.vis
  fb : t.fb = s.fb
  cycle : t.vic.cycle = s.vic.cycle
  line : t.vic.line = s.vic.line
  rstLeft : t.rstLeft = s.rstLeft
  inp : t.inp = s.inp
  irq : t.out.irq = s.out.irq
  nmiEdge : t.out.nmiEdge = s.out.nmiEdge
  res : t.out.res = s.out.res
  signalIrq : t.out.signalIrq = s.out.signalIrq
  signalNmi : t.out.signalNmi = s.out.signalNmi
  irqSeen : t.irqSeen = s.irqSeen
  everReset : t.everReset = s.everReset
  calls : t.calls = s.calls
  drawn : t.drawn = s.drawn

theorem RoutedFrame.trans {s t u : State} (h : RoutedFrame s t) (g : RoutedFrame t u) : RoutedFrame s u where
  vis := g.vis.trans h.vis
  fb := g.fb.trans h.fb
  cycle := g.cycle.trans h.cycle
  line := g.line.trans h.line
  rstLeft := g.rstLeft.trans h.rstLeft
  inp := g.inp.trans h.inp
  irq := g.irq.trans h.irq
  nmiEdge := g.nmiEdge.trans h.nmiEdge
  res := g.res.trans h.res
  signalIrq := g.signalIrq.trans h.signalIrq
  signalNmi := g.signalNmi.trans h.signalNmi
  irqSeen := g.irqSeen.trans h.irqSeen
  everReset := g.everReset.trans h.everReset
  calls := g.calls.trans h.calls
  drawn := g.drawn.trans h.drawn

theorem routedFrame_openCycle (s : State) : RoutedFrame s (openCycle s) := by constructor <;> rfl

theorem routedFrame_answer (v : Byte) (s : State) : RoutedFrame s (answer v s) := by constructor <;> rfl

theorem routedFrame_storeRam (a : Addr) (s : State) : RoutedFrame s (storeRam a s) := by constructor <;> rfl

theorem routedFrame_deliverSid (a : Addr) (s : State) : RoutedFrame s (deliverSid a s) := by constructor <;> rfl

theorem routedFrame_setCia (s : State) (k : CiaId) (c : Cia) (d : Option Byte) :
    RoutedFrame s (ciaResult k c d s) := by
  cases k <;> constructor <;> rfl

@[simp] theorem ciaResult_ram (k : CiaId) (c : Cia) (d : Option Byte) (s : State) : (ciaResult k c d s).ram = s.ram := by
  cases k <;> rfl

theorem routedFrame_setVic (s : State) (r w : RegFile 6) (d : Option Byte) :
    RoutedFrame s { s with vic := { s.vic with r := r, w := w }, out := { s.out with dout := d } } := by
  constructor <;> rfl

/-- A CIA access inside a bus cycle. -/
theorem ciaAccess_frame (k : CiaId) (rw : Bool) (a : Addr) (s : State) :
    ∃ t, ciaAccess k rw a s = .next t ∧ RoutedFrame s t ∧ t.ram = s.ram := by
  obtain ⟨c, d, h⟩ := ciaAccess_next k rw a s
  exact ⟨_, h, routedFrame_setCia s k c d, by simp⟩

/-- A VIC access inside a bus cycle. -/
theorem vicAccess_frame (rw : Bool) (a : Addr) (s : State) :
    ∃ t, vicAccess rw a s = .next t ∧ RoutedFrame s t ∧ t.ram = s.ram := by
  obtain ⟨r, w, d, h⟩ := vicAccess_next rw a s
  exact ⟨_, h, routedFrame_setVic s r w d, rfl⟩

/-- Whether a BUS operation is a write. -/
def busOpWrites : BusOp → Bool
  | .rdRam => false
  | .rdVic => false
  | .rdSid => false
  | .rdColor => false
  | .rdCia1 => false
  | .rdCia2 => false
  | .rdIoexp => false
  | .rdChar => false
  | .rdBasic => false
  | .rdKernal => false
  | .wrRam => true
  | .wrVic => true
  | .wrSid => true
  | .wrColor => true
  | .wrCia1 => true
  | .wrCia2 => true
  | .wrIoexp => true

/-- A bus operation completes; a write stores D in RAM at its address, a read leaves RAM; the rest of the frame holds. -/
theorem runBus_next (op : BusOp) (m : BitVec 3) (a : Addr) (s : State) :
    ∃ t, runBus op m a s = .next t ∧ RoutedFrame s t ∧
      t.ram = if busOpWrites op then s.ram.write a.toNat s.inp.d else s.ram := by
  have ho := routedFrame_openCycle s
  have hst := ho.trans (routedFrame_storeRam a (openCycle s))
  cases op
  case rdVic =>
    obtain ⟨t, h, f, r⟩ := vicAccess_frame true a (openCycle s)
    exact ⟨t, h, ho.trans f, r⟩
  case rdCia1 =>
    obtain ⟨t, h, f, r⟩ := ciaAccess_frame .cia1 true a (openCycle s)
    exact ⟨t, h, ho.trans f, r⟩
  case rdCia2 =>
    obtain ⟨t, h, f, r⟩ := ciaAccess_frame .cia2 true a (openCycle s)
    exact ⟨t, h, ho.trans f, r⟩
  case wrVic =>
    obtain ⟨t, h, f, r⟩ := vicAccess_frame false a (storeRam a (openCycle s))
    exact ⟨t, h, hst.trans f, r⟩
  case wrCia1 =>
    obtain ⟨t, h, f, r⟩ := ciaAccess_frame .cia1 false a (storeRam a (openCycle s))
    exact ⟨t, h, hst.trans f, r⟩
  case wrCia2 =>
    obtain ⟨t, h, f, r⟩ := ciaAccess_frame .cia2 false a (storeRam a (openCycle s))
    exact ⟨t, h, hst.trans f, r⟩
  case wrSid => exact ⟨_, rfl, hst.trans (routedFrame_deliverSid a _), rfl⟩
  case wrRam => exact ⟨_, rfl, hst, rfl⟩
  case wrColor => exact ⟨_, rfl, hst, rfl⟩
  case wrIoexp => exact ⟨_, rfl, hst, rfl⟩
  case rdRam => exact ⟨_, rfl, ho.trans (routedFrame_answer _ _), rfl⟩
  case rdColor => exact ⟨_, rfl, ho.trans (routedFrame_answer _ _), rfl⟩
  case rdIoexp => exact ⟨_, rfl, ho.trans (routedFrame_answer _ _), rfl⟩
  case rdSid => exact ⟨_, rfl, ho.trans (routedFrame_answer _ _), rfl⟩
  case rdChar => exact ⟨_, rfl, ho.trans (routedFrame_answer _ _), rfl⟩
  case rdBasic => exact ⟨_, rfl, ho.trans (routedFrame_answer _ _), rfl⟩
  case rdKernal => exact ⟨_, rfl, ho.trans (routedFrame_answer _ _), rfl⟩

/-- Every BUS word selects a row (20_memory.md R112). -/
theorem lookup_busRows_isSome (w : BitVec 20) : (lookupRow busRows w).isSome = true := by
  rw [← busWord_eta w, lookup_busRows_page]
  exact lookup_page_isSome (busRead w) (busMode w) ((busAddr w).extractLsb' 8 8)

/-- A routed cycle completes. -/
theorem route_next (w : BitVec 20) (s : State) : ∃ t, route w s = .next t ∧ RoutedFrame s t := by
  obtain ⟨op, hop⟩ := Option.isSome_iff_exists.mp (lookup_busRows_isSome w)
  obtain ⟨t, h, f, _⟩ := runBus_next op (busMode w) (busAddr w) s
  exact ⟨t, by simp only [route, hop, h], f⟩

/-- What a CLK that answers a next state was: a handshake CLK, or a routed cycle after the devices' ticks. -/
theorem execClk_cases {s t : State} (h : execClk s = .next t) :
    s.everReset = true ∧
      ((0 < s.rstLeft ∧ t = handshakeClk s) ∨
        (s.rstLeft = 0 ∧ ∃ u, route (cycleWord s) (tickDevices s) = .next u ∧ RoutedFrame (tickDevices s) u ∧
          t = emit (ciaSignal s.cia2) false u)) := by
  unfold execClk at h
  split at h
  · next he =>
    refine ⟨he, ?_⟩
    split at h
    · next hr =>
      simp only [Host.Outcome.next.injEq] at h
      exact .inl ⟨hr, h.symm⟩
    · next hr =>
      obtain ⟨u, hu, f⟩ := route_next (cycleWord (tickDevices s)) (tickDevices s)
      simp only [normalClk, hu, Host.Outcome.next.injEq] at h
      exact .inr ⟨by omega, u, hu, f, h.symm⟩
  · cases h

/-- A normal CLK completes. -/
theorem execClk_normal {s : State} (he : s.everReset = true) (hr : s.rstLeft = 0) :
    ∃ u, route (cycleWord s) (tickDevices s) = .next u ∧ RoutedFrame (tickDevices s) u ∧
      execClk s = .next (emit (ciaSignal s.cia2) false u) := by
  obtain ⟨u, hu, f⟩ := route_next (cycleWord (tickDevices s)) (tickDevices s)
  refine ⟨u, hu, f, ?_⟩
  simp [execClk, normalClk, he, hr] at hu ⊢
  rw [hu]

end Sys2Proof.Machine
end

