-- ==== Sys2Proof/Laws/Timer.lean ====
section
/-! SUPPORT. What a timer tick, and a write of a timer register, can do to a CIA. -/

namespace Sys2Proof.Machine

/-- A tick underflows exactly when the timer runs with counter 1. -/
theorem reachesZero_eq (x : TimerId) (c : Cia) : reachesZero x c = (timerRunning x c && timerCounter x c == 1#16) := by
  have h : (timerCounter x c - 1#16 == 0#16) = (timerCounter x c == 1#16) := by
    rw [Bool.eq_iff_iff, beq_iff_eq, beq_iff_eq]
    constructor <;> intro h <;> bv_omega
  rw [reachesZero, h]

theorem timerTick_stopped {x : TimerId} {c : Cia} (h : timerRunning x c = false) : timerTick x c = c := by
  simp [timerTick, h]

theorem timerTick_counting {x : TimerId} {c : Cia} (h : timerRunning x c = true) (hc : timerCounter x c ≠ 1#16) :
    timerTick x c = countDown x c := by
  simp [timerTick, h, reachesZero_eq, hc]

theorem timerTick_underflow {x : TimerId} {c : Cia} (h : timerRunning x c = true) (hc : timerCounter x c = 1#16) :
    timerTick x c = underflow x (countDown x c) := by
  simp [timerTick, h, reachesZero_eq, hc]

@[simp] theorem timerCounter_countDown (x : TimerId) (c : Cia) : timerCounter x (countDown x c) = timerCounter x c - 1#16 :=
  timerCounter_setTimerCounter x _ c

@[simp] theorem countDown_w (x : TimerId) (c : Cia) : (countDown x c).w = c.w := rfl

theorem countDown_read {x : TimerId} {j : BitVec 4} (c : Cia) (hl : j ≠ timerLo x) (hh : j ≠ timerHi x) :
    (countDown x c).r.read j = c.r.read j := by
  simp [countDown, read_write, hl, hh]

@[simp] theorem timerRunning_countDown (x y : TimerId) (c : Cia) : timerRunning x (countDown y c) = timerRunning x c := by
  unfold timerRunning
  rw [countDown_read c] <;> cases x <;> cases y <;> decide

@[simp] theorem timerSingleShot_countDown (x y : TimerId) (c : Cia) :
    timerSingleShot x (countDown y c) = timerSingleShot x c := by
  unfold timerSingleShot
  rw [countDown_read c] <;> cases x <;> cases y <;> decide

@[simp] theorem timerUnmasked_countDown (x y : TimerId) (c : Cia) : timerUnmasked x (countDown y c) = timerUnmasked x c := rfl

@[simp] theorem underflowFlags_w (x : TimerId) (c : Cia) : (underflowFlags x c).w = c.w := by
  unfold underflowFlags; split <;> rfl

/-- An underflow's flags touch the ICR alone. -/
theorem underflowFlags_read {j : BitVec 4} (x : TimerId) (c : Cia) (hj : j ≠ 0xD#4) :
    (underflowFlags x c).r.read j = c.r.read j := by
  unfold underflowFlags; split <;> simp [read_write, hj]

theorem underflowFlags_icr (x : TimerId) (c : Cia) :
    (underflowFlags x c).r.read 0xD#4 =
      if timerUnmasked x c then icrRaise (timerBit x) (c.r.read 0xD#4) else c.r.read 0xD#4 := by
  unfold underflowFlags; split <;> simp

theorem stopTimer_r (x : TimerId) (c : Cia) :
    (stopTimer x c).r = c.r.write (timerCr x) (c.r.read (timerCr x) &&& 0xFE#8) := rfl

theorem stopTimer_w (x : TimerId) (c : Cia) :
    (stopTimer x c).w = c.w.write (timerCr x) (c.w.read (timerCr x) &&& 0xFE#8) := rfl

/-- The registers of the read view after a tick: the timer's own bytes, its control register and the ICR are all that
can differ. -/
theorem timerTick_read {j : BitVec 4} (x : TimerId) (c : Cia) (hl : j ≠ timerLo x) (hh : j ≠ timerHi x) (hc : j ≠ timerCr x)
    (hd : j ≠ 0xD#4) : (timerTick x c).r.read j = c.r.read j := by
  cases hr : timerRunning x c
  · rw [timerTick_stopped hr]
  · by_cases h1 : timerCounter x c = 1#16
    · rw [timerTick_underflow hr h1]
      unfold underflow
      split
      · rw [stopTimer_r, read_write_other _ _ _ _ hc, underflowFlags_read x _ hd, countDown_read c hl hh]
      · rw [loadTimer_r, read_write_other _ _ _ _ hh, read_write_other _ _ _ _ hl, underflowFlags_read x _ hd,
          countDown_read c hl hh]
    · rw [timerTick_counting hr h1, countDown_read c hl hh]

/-- The registers of the write view after a tick: only the control register can differ. -/
theorem timerTick_latch {j : BitVec 4} (x : TimerId) (c : Cia) (hc : j ≠ timerCr x) :
    (timerTick x c).w.read j = c.w.read j := by
  cases hr : timerRunning x c
  · rw [timerTick_stopped hr]
  · by_cases h1 : timerCounter x c = 1#16
    · rw [timerTick_underflow hr h1]
      unfold underflow
      split
      · rw [stopTimer_w, read_write_other _ _ _ _ hc, underflowFlags_w, countDown_w]
      · rw [loadTimer_w, underflowFlags_w, countDown_w]
    · rw [timerTick_counting hr h1, countDown_w]

/-- The ICR flags after a tick. -/
theorem timerTick_icr (x : TimerId) (c : Cia) :
    (timerTick x c).r.read 0xD#4 =
      if timerSignal x c then icrRaise (timerBit x) (c.r.read 0xD#4) else c.r.read 0xD#4 := by
  obtain ⟨-, -, -, hl, hh, hcr⟩ := timer_indices_distinct x
  cases hr : timerRunning x c
  · rw [timerTick_stopped hr]
    simp [timerSignal, reachesZero_eq, hr]
  · by_cases h1 : timerCounter x c = 1#16
    · have hs : timerSignal x c = timerUnmasked x c := by simp [timerSignal, reachesZero_eq, hr, h1]
      rw [timerTick_underflow hr h1, hs, ← countDown_read c hl.symm hh.symm, ← timerUnmasked_countDown x x c]
      unfold underflow
      split
      · rw [stopTimer_r, read_write_other _ _ _ _ hcr.symm, underflowFlags_icr]
      · rw [loadTimer_r, read_write_other _ _ _ _ hh.symm, read_write_other _ _ _ _ hl.symm, underflowFlags_icr]
    · rw [timerTick_counting hr h1, countDown_read c hl.symm hh.symm]
      simp [timerSignal, reachesZero_eq, h1]

@[simp] theorem timerHighStore_w (x : TimerId) (d : Byte) (c : Cia) :
    (timerHighStore x d c).w = c.w.write (timerHi x) d := by
  unfold timerHighStore; split <;> rfl

theorem timerHighStore_running {x : TimerId} (d : Byte) {c : Cia} (h : timerRunning x c = true) :
    (timerHighStore x d c).r = c.r := by
  rw [timerHighStore, if_pos h]; rfl

theorem timerHighStore_stopped {x : TimerId} (d : Byte) {c : Cia} (h : timerRunning x c = false) :
    (timerHighStore x d c).r = (c.r.write (timerLo x) (c.w.read (timerLo x))).write (timerHi x) d := by
  have hd := (timer_indices_distinct x).1
  rw [timerHighStore, if_neg (by simp [h])]
  simp [read_write_other _ _ _ _ hd]

@[simp] theorem controlStore_w (x : TimerId) (d : Byte) (c : Cia) : (controlStore x d c).w = c.w.write (timerCr x) d := by
  unfold controlStore; split <;> rfl

theorem controlStore_r (x : TimerId) (d : Byte) (c : Cia) :
    (controlStore x d c).r =
      if d.getLsbD 4 then
        ((c.r.write (timerCr x) d).write (timerLo x) (c.w.read (timerLo x))).write (timerHi x) (c.w.read (timerHi x))
      else c.r.write (timerCr x) d := by
  obtain ⟨-, hl, hh, -⟩ := timer_indices_distinct x
  unfold controlStore
  split
  · simp [read_write_other _ _ _ _ hl, read_write_other _ _ _ _ hh]
  · rfl

end Sys2Proof.Machine
end

