-- ==== Sys2Proof/Tests/Slice0.lean ====
section
/-! SUPPORT. The model's own tests: expected values are those of 95_test_vectors.md and of the rules' examples; then one witness for
every statement that has hypotheses. -/

namespace Sys2Proof.Tests

open Sys2Proof Sys2Proof.Machine

/-! ### Helpers -/

/-- A register file with the listed registers set, the others $00. -/
def regs {n : Nat} (xs : List (BitVec n × Byte)) : RegFile n := xs.foldl (fun f p => f.write p.1 p.2) (RegFile.zero n)

/-- A CIA of two listed views. -/
def ciaOf (r w : List (BitVec 4 × Byte)) : Cia := { r := regs r, w := regs w }

/-- A VIC of two listed sets at a scanline. -/
def vicOf (r w : List (BitVec 6 × Byte)) (line : BitVec 9) : Vic := { r := regs r, w := regs w, cycle := 0, line := line }

/-- A state in normal operation, mode 7. -/
def normal : State := { State.reset with rstLeft := 0, ram := [(1, 0x07#8)] }

/-- The state with a read cycle of address a as its inputs. -/
def reading (a : Addr) (s : State) : State := { s with inp := { s.inp with a := a, rw := true } }

/-- The state with a write cycle of d to address a as its inputs. -/
def writing (a : Addr) (d : Byte) (s : State) : State := { s with inp := { s.inp with a := a, d := d, rw := false } }

/-- The next state of an operation, if it has one. -/
def after (i : Instr) (s : State) : Option State :=
  match exec i s with
  | .next t => some t
  | .fault _ => none
  | .refused _ => none

/-- The byte an operation leaves driven. -/
def driven (i : Instr) (s : State) : Option Byte := (after i s).bind (fun t => t.out.dout)

/-! ### Well-formedness: an ill-formed term for each check -/

theorem test_wellFormed_refuses_bus_reads :
    ([.busRdRam 7 0xA000, .busRdVic 7 0xD400, .busRdSid 7 0xD3FF, .busRdColor 7 0xDC00, .busRdCia1 4 0xDC00,
      .busRdCia2 7 0xDCFF, .busRdIoexp 7 0xDDFF, .busRdChar 7 0xD000, .busRdBasic 6 0xA000, .busRdKernal 5 0xE000] :
      List Instr).all (fun i => !i.wellFormed) = true := by decide

theorem test_wellFormed_refuses_bus_writes :
    ([.busWrRam 7 0xD020, .busWrVic 3 0xD020, .busWrSid 7 0xD800, .busWrColor 0 0xD800, .busWrCia1 7 0xDD00,
      .busWrCia2 4 0xDD00, .busWrIoexp 7 0xE000] : List Instr).all (fun i => !i.wellFormed) = true := by decide

theorem test_wellFormed_refuses_vic :
    ([.vicRdSprpos 0x11, .vicRdLp 0x15, .vicRdSprmisc 0x1A, .vicRdColl 0x20, .vicRdBg 0x25, .vicRdSprcol 0x2F,
      .vicRdUnused 0x2E, .vicWrSprpos 0x11, .vicWrLp 0x12, .vicWrSprmisc 0x1E, .vicWrColl 0x1D, .vicWrBg 0x20,
      .vicWrSprcol 0x24, .vicWrUnused 0x2E] : List Instr).all (fun i => !i.wellFormed) = true := by decide

/-! ### Decoding: every constructor from a word the spec writes out -/

/-- 95_test_vectors.md V-PLA, the read words. -/
theorem test_decode_bus_reads :
    decodeWord (.bus 0xF0000#20) = .ok (.busRdRam 7 0x0000) ∧
    decodeWord (.bus 0x89FFF#20) = .ok (.busRdRam 0 0x9FFF) ∧
    decodeWord (.bus 0xFA000#20) = .ok (.busRdBasic 7 0xA000) ∧
    decodeWord (.bus 0xEA000#20) = .ok (.busRdRam 6 0xA000) ∧
    decodeWord (.bus 0xBBFFF#20) = .ok (.busRdBasic 3 0xBFFF) ∧
    decodeWord (.bus 0xFC000#20) = .ok (.busRdRam 7 0xC000) ∧
    decodeWord (.bus 0xFD000#20) = .ok (.busRdVic 7 0xD000) ∧
    decodeWord (.bus 0xFD3FF#20) = .ok (.busRdVic 7 0xD3FF) ∧
    decodeWord (.bus 0xFD400#20) = .ok (.busRdSid 7 0xD400) ∧
    decodeWord (.bus 0xFD800#20) = .ok (.busRdColor 7 0xD800) ∧
    decodeWord (.bus 0xFDBFF#20) = .ok (.busRdColor 7 0xDBFF) ∧
    decodeWord (.bus 0xFDC00#20) = .ok (.busRdCia1 7 0xDC00) ∧
    decodeWord (.bus 0xFDCFF#20) = .ok (.busRdCia1 7 0xDCFF) ∧
    decodeWord (.bus 0xFDD00#20) = .ok (.busRdCia2 7 0xDD00) ∧
    decodeWord (.bus 0xFDE00#20) = .ok (.busRdIoexp 7 0xDE00) ∧
    decodeWord (.bus 0xFDFFF#20) = .ok (.busRdIoexp 7 0xDFFF) ∧
    decodeWord (.bus 0xBD000#20) = .ok (.busRdChar 3 0xD000) ∧
    decodeWord (.bus 0x9DFFF#20) = .ok (.busRdChar 1 0xDFFF) ∧
    decodeWord (.bus 0xCD000#20) = .ok (.busRdRam 4 0xD000) ∧
    decodeWord (.bus 0x8D000#20) = .ok (.busRdRam 0 0xD000) ∧
    decodeWord (.bus 0xAE000#20) = .ok (.busRdKernal 2 0xE000) ∧
    decodeWord (.bus 0xDFFFF#20) = .ok (.busRdRam 5 0xFFFF) ∧
    decodeWord (.bus 0xEFFFC#20) = .ok (.busRdKernal 6 0xFFFC) := by
  decide

/-- 95_test_vectors.md V-PLA, the write words. -/
theorem test_decode_bus_writes :
    decodeWord (.bus 0x7A000#20) = .ok (.busWrRam 7 0xA000) ∧
    decodeWord (.bus 0x7E000#20) = .ok (.busWrRam 7 0xE000) ∧
    decodeWord (.bus 0x3D000#20) = .ok (.busWrRam 3 0xD000) ∧
    decodeWord (.bus 0x7D020#20) = .ok (.busWrVic 7 0xD020) ∧
    decodeWord (.bus 0x5DC0D#20) = .ok (.busWrCia1 5 0xDC0D) ∧
    decodeWord (.bus 0x6DD00#20) = .ok (.busWrCia2 6 0xDD00) ∧
    decodeWord (.bus 0x7D400#20) = .ok (.busWrSid 7 0xD400) ∧
    decodeWord (.bus 0x7D800#20) = .ok (.busWrColor 7 0xD800) ∧
    decodeWord (.bus 0x7DE00#20) = .ok (.busWrIoexp 7 0xDE00) ∧
    decodeWord (.bus 0x4D020#20) = .ok (.busWrRam 4 0xD020) ∧
    decodeWord (.bus 0x00001#20) = .ok (.busWrRam 0 0x0001) := by
  decide

/-- The CIA select words of R191 to R211; bit 5 is the instance (R143). -/
theorem test_decode_cia_reads :
    decodeWord (.cia 0x10#6) = .ok .cia1RdPra ∧
    decodeWord (.cia 0x11#6) = .ok .cia1RdPrb ∧
    decodeWord (.cia 0x30#6) = .ok .cia2RdPra ∧
    decodeWord (.cia 0x31#6) = .ok .cia2RdPrb ∧
    decodeWord (.cia 0x12#6) = .ok (.ciaRdDdra .cia1) ∧
    decodeWord (.cia 0x32#6) = .ok (.ciaRdDdra .cia2) ∧
    decodeWord (.cia 0x13#6) = .ok (.ciaRdDdrb .cia1) ∧
    decodeWord (.cia 0x33#6) = .ok (.ciaRdDdrb .cia2) ∧
    decodeWord (.cia 0x14#6) = .ok (.ciaRdTalo .cia1) ∧
    decodeWord (.cia 0x34#6) = .ok (.ciaRdTalo .cia2) ∧
    decodeWord (.cia 0x15#6) = .ok (.ciaRdTahi .cia1) ∧
    decodeWord (.cia 0x35#6) = .ok (.ciaRdTahi .cia2) ∧
    decodeWord (.cia 0x16#6) = .ok (.ciaRdTblo .cia1) ∧
    decodeWord (.cia 0x36#6) = .ok (.ciaRdTblo .cia2) ∧
    decodeWord (.cia 0x17#6) = .ok (.ciaRdTbhi .cia1) ∧
    decodeWord (.cia 0x37#6) = .ok (.ciaRdTbhi .cia2) ∧
    decodeWord (.cia 0x18#6) = .ok (.ciaRdTod10 .cia1) ∧
    decodeWord (.cia 0x38#6) = .ok (.ciaRdTod10 .cia2) ∧
    decodeWord (.cia 0x19#6) = .ok (.ciaRdTodsec .cia1) ∧
    decodeWord (.cia 0x39#6) = .ok (.ciaRdTodsec .cia2) ∧
    decodeWord (.cia 0x1A#6) = .ok (.ciaRdTodmin .cia1) ∧
    decodeWord (.cia 0x3A#6) = .ok (.ciaRdTodmin .cia2) ∧
    decodeWord (.cia 0x1B#6) = .ok (.ciaRdTodhr .cia1) ∧
    decodeWord (.cia 0x3B#6) = .ok (.ciaRdTodhr .cia2) ∧
    decodeWord (.cia 0x1C#6) = .ok (.ciaRdSdr .cia1) ∧
    decodeWord (.cia 0x3C#6) = .ok (.ciaRdSdr .cia2) ∧
    decodeWord (.cia 0x1D#6) = .ok (.ciaRdIcr .cia1) ∧
    decodeWord (.cia 0x3D#6) = .ok (.ciaRdIcr .cia2) ∧
    decodeWord (.cia 0x1E#6) = .ok (.ciaRdCra .cia1) ∧
    decodeWord (.cia 0x3E#6) = .ok (.ciaRdCra .cia2) ∧
    decodeWord (.cia 0x1F#6) = .ok (.ciaRdCrb .cia1) ∧
    decodeWord (.cia 0x3F#6) = .ok (.ciaRdCrb .cia2) := by
  decide

/-- The CIA select words of R216 to R231. -/
theorem test_decode_cia_writes :
    decodeWord (.cia 0x00#6) = .ok (.ciaWrPra .cia1) ∧
    decodeWord (.cia 0x20#6) = .ok (.ciaWrPra .cia2) ∧
    decodeWord (.cia 0x01#6) = .ok (.ciaWrPrb .cia1) ∧
    decodeWord (.cia 0x21#6) = .ok (.ciaWrPrb .cia2) ∧
    decodeWord (.cia 0x02#6) = .ok (.ciaWrDdra .cia1) ∧
    decodeWord (.cia 0x22#6) = .ok (.ciaWrDdra .cia2) ∧
    decodeWord (.cia 0x03#6) = .ok (.ciaWrDdrb .cia1) ∧
    decodeWord (.cia 0x23#6) = .ok (.ciaWrDdrb .cia2) ∧
    decodeWord (.cia 0x04#6) = .ok (.ciaWrTalo .cia1) ∧
    decodeWord (.cia 0x24#6) = .ok (.ciaWrTalo .cia2) ∧
    decodeWord (.cia 0x05#6) = .ok (.ciaWrTahi .cia1) ∧
    decodeWord (.cia 0x25#6) = .ok (.ciaWrTahi .cia2) ∧
    decodeWord (.cia 0x06#6) = .ok (.ciaWrTblo .cia1) ∧
    decodeWord (.cia 0x26#6) = .ok (.ciaWrTblo .cia2) ∧
    decodeWord (.cia 0x07#6) = .ok (.ciaWrTbhi .cia1) ∧
    decodeWord (.cia 0x27#6) = .ok (.ciaWrTbhi .cia2) ∧
    decodeWord (.cia 0x08#6) = .ok (.ciaWrTod10 .cia1) ∧
    decodeWord (.cia 0x28#6) = .ok (.ciaWrTod10 .cia2) ∧
    decodeWord (.cia 0x09#6) = .ok (.ciaWrTodsec .cia1) ∧
    decodeWord (.cia 0x29#6) = .ok (.ciaWrTodsec .cia2) ∧
    decodeWord (.cia 0x0A#6) = .ok (.ciaWrTodmin .cia1) ∧
    decodeWord (.cia 0x2A#6) = .ok (.ciaWrTodmin .cia2) ∧
    decodeWord (.cia 0x0B#6) = .ok (.ciaWrTodhr .cia1) ∧
    decodeWord (.cia 0x2B#6) = .ok (.ciaWrTodhr .cia2) ∧
    decodeWord (.cia 0x0C#6) = .ok (.ciaWrSdr .cia1) ∧
    decodeWord (.cia 0x2C#6) = .ok (.ciaWrSdr .cia2) ∧
    decodeWord (.cia 0x0D#6) = .ok (.ciaWrIcr .cia1) ∧
    decodeWord (.cia 0x2D#6) = .ok (.ciaWrIcr .cia2) ∧
    decodeWord (.cia 0x0E#6) = .ok (.ciaWrCra .cia1) ∧
    decodeWord (.cia 0x2E#6) = .ok (.ciaWrCra .cia2) ∧
    decodeWord (.cia 0x0F#6) = .ok (.ciaWrCrb .cia1) ∧
    decodeWord (.cia 0x2F#6) = .ok (.ciaWrCrb .cia2) := by
  decide

/-- The VIC select words of R262 to R277, a group's first and last. -/
theorem test_decode_vic_reads :
    decodeWord (.vic 0x40#7) = .ok (.vicRdSprpos 0x00#6) ∧
    decodeWord (.vic 0x50#7) = .ok (.vicRdSprpos 0x10#6) ∧
    decodeWord (.vic 0x51#7) = .ok .vicRdCr1 ∧
    decodeWord (.vic 0x52#7) = .ok .vicRdRaster ∧
    decodeWord (.vic 0x53#7) = .ok (.vicRdLp 0x13#6) ∧
    decodeWord (.vic 0x54#7) = .ok (.vicRdLp 0x14#6) ∧
    decodeWord (.vic 0x55#7) = .ok .vicRdSpren ∧
    decodeWord (.vic 0x56#7) = .ok .vicRdCr2 ∧
    decodeWord (.vic 0x57#7) = .ok .vicRdSpryex ∧
    decodeWord (.vic 0x58#7) = .ok .vicRdMemptr ∧
    decodeWord (.vic 0x59#7) = .ok .vicRdIrqflag ∧
    decodeWord (.vic 0x5A#7) = .ok .vicRdIrqmask ∧
    decodeWord (.vic 0x5B#7) = .ok (.vicRdSprmisc 0x1B#6) ∧
    decodeWord (.vic 0x5D#7) = .ok (.vicRdSprmisc 0x1D#6) ∧
    decodeWord (.vic 0x5E#7) = .ok (.vicRdColl 0x1E#6) ∧
    decodeWord (.vic 0x5F#7) = .ok (.vicRdColl 0x1F#6) ∧
    decodeWord (.vic 0x60#7) = .ok .vicRdBorder ∧
    decodeWord (.vic 0x61#7) = .ok (.vicRdBg 0x21#6) ∧
    decodeWord (.vic 0x64#7) = .ok (.vicRdBg 0x24#6) ∧
    decodeWord (.vic 0x65#7) = .ok (.vicRdSprcol 0x25#6) ∧
    decodeWord (.vic 0x6E#7) = .ok (.vicRdSprcol 0x2E#6) ∧
    decodeWord (.vic 0x6F#7) = .ok (.vicRdUnused 0x2F#6) ∧
    decodeWord (.vic 0x7F#7) = .ok (.vicRdUnused 0x3F#6) := by
  decide

/-- The VIC select words of R280 to R295, a group's first and last. -/
theorem test_decode_vic_writes :
    decodeWord (.vic 0x00#7) = .ok (.vicWrSprpos 0x00#6) ∧
    decodeWord (.vic 0x10#7) = .ok (.vicWrSprpos 0x10#6) ∧
    decodeWord (.vic 0x11#7) = .ok .vicWrCr1 ∧
    decodeWord (.vic 0x12#7) = .ok .vicWrRaster ∧
    decodeWord (.vic 0x13#7) = .ok (.vicWrLp 0x13#6) ∧
    decodeWord (.vic 0x14#7) = .ok (.vicWrLp 0x14#6) ∧
    decodeWord (.vic 0x15#7) = .ok .vicWrSpren ∧
    decodeWord (.vic 0x16#7) = .ok .vicWrCr2 ∧
    decodeWord (.vic 0x17#7) = .ok .vicWrSpryex ∧
    decodeWord (.vic 0x18#7) = .ok .vicWrMemptr ∧
    decodeWord (.vic 0x19#7) = .ok .vicWrIrqflag ∧
    decodeWord (.vic 0x1A#7) = .ok .vicWrIrqmask ∧
    decodeWord (.vic 0x1B#7) = .ok (.vicWrSprmisc 0x1B#6) ∧
    decodeWord (.vic 0x1D#7) = .ok (.vicWrSprmisc 0x1D#6) ∧
    decodeWord (.vic 0x1E#7) = .ok (.vicWrColl 0x1E#6) ∧
    decodeWord (.vic 0x1F#7) = .ok (.vicWrColl 0x1F#6) ∧
    decodeWord (.vic 0x20#7) = .ok .vicWrBorder ∧
    decodeWord (.vic 0x21#7) = .ok (.vicWrBg 0x21#6) ∧
    decodeWord (.vic 0x24#7) = .ok (.vicWrBg 0x24#6) ∧
    decodeWord (.vic 0x25#7) = .ok (.vicWrSprcol 0x25#6) ∧
    decodeWord (.vic 0x2E#7) = .ok (.vicWrSprcol 0x2E#6) ∧
    decodeWord (.vic 0x2F#7) = .ok (.vicWrUnused 0x2F#6) ∧
    decodeWord (.vic 0x3F#7) = .ok (.vicWrUnused 0x3F#6) := by
  decide

/-- The event codes (R157). -/
theorem test_decode_events : decodeWord (.event 0#1) = .ok .clk ∧ decodeWord (.event 1#1) = .ok .reset := by decide

/-- Bytes that hold no word are refused by name, and the rest of the bytes comes back. -/
theorem test_decode_bytes :
    decodeBytes .bus [0x0D#8, 0xDC#8, 0x05#8, 0xAA#8] = .ok (.busWrCia1 5 0xDC0D, [0xAA#8]) ∧
    decodeBytes .bus [0x0D#8, 0xDC#8] = .error (.truncated .bus) ∧
    decodeBytes .bus [0x0D#8, 0xDC#8, 0x15#8] = .error (.tooWide .bus) ∧
    decodeBytes .cia [0x40#8] = .error (.tooWide .cia) ∧ decodeBytes .vic [0x80#8] = .error (.tooWide .vic) ∧
    decodeBytes .event [0x02#8] = .error (.tooWide .event) := by decide

/-- A BUS word placed by withFetchWord is what the next step runs: BUS_RD_RAM of $0001 in mode 5 drives the mode port. -/
theorem test_fetch_word :
    decodeTableWord 24 0xD0001 = some (.busRdRam 5 0x0001) ∧
    (match step (State.reset.withFetchWord 24 0xD0001) with
      | .next t => decide (t.out.dout = some 0x05#8)
      | .fault _ => false
      | .refused _ => false) = true := by decide +kernel

/-! ### Bus operations -/

/-- R360, R365, R366, R364: RAM reads and the SID's answer. -/
theorem test_bus_reads_ram :
    driven (.busRdRam 0 0xE000) { normal with ram := [(0xE000, 0x4C#8)] } = some 0x4C#8 ∧
    driven (.busRdColor 7 0xD800) { normal with ram := [(0xD800, 0xF1#8)] } = some 0xF1#8 ∧
    driven (.busRdIoexp 7 0xDF00) { normal with ram := [(0xDF00, 0x12#8)] } = some 0x12#8 ∧
    driven (.busRdSid 7 0xD41B) { normal with inp := { normal.inp with sidRead := 0x55#8 } } = some 0x55#8 := by
  decide +kernel

/-- R367 to R369: the ROM byte at the offset of its region. -/
theorem test_bus_reads_rom :
    driven (.busRdChar 3 0xD008) normal = some (Config.charRom 0x008) ∧
    driven (.busRdBasic 7 0xA000) normal = some (Config.basicRom 0x0000) ∧
    driven (.busRdKernal 7 0xFFFC) normal = some (Config.kernalRom 0x1FFC) := ⟨rfl, rfl, rfl⟩

/-- R361 to R363, V-PLA's mirrors: $DC1D is CIA1 index $D, $DDF0 CIA2 index 0, $D040 VIC index 0, $D2FF index $3F. -/
theorem test_bus_reads_devices :
    driven (.busRdCia1 7 0xDC1D) { normal with cia1 := ciaOf [(0xD, 0x81)] [] } = some 0x81#8 ∧
    driven (.busRdCia2 7 0xDDF0) { normal with cia2 := ciaOf [(0x0, 0x97)] [] } = some 0x97#8 ∧
    driven (.busRdVic 7 0xD040) { normal with vic := vicOf [(0x00, 0x18)] [] 0 } = some 0x18#8 ∧
    driven (.busRdVic 7 0xD2FF) normal = some 0xFF#8 := by decide +kernel

/-- R370, R375, R376, R374: writes reach RAM; the SID gets its own too. -/
theorem test_bus_writes_ram :
    ((after (.busWrRam 7 0xE000) (writing 0xE000 0xEA normal)).map (fun t => t.ram.read 0xE000)) = some 0xEA#8 ∧
    ((after (.busWrColor 7 0xD800) (writing 0xD800 0x01 normal)).map (fun t => t.ram.read 0xD800)) = some 0x01#8 ∧
    ((after (.busWrIoexp 7 0xDE00) (writing 0xDE00 0x80 normal)).map (fun t => t.ram.read 0xDE00)) = some 0x80#8 ∧
    ((after (.busWrSid 7 0xD418) (writing 0xD418 0x0F normal)).map (fun t => (t.ram.read 0xD418, t.out.sidWr))) =
      some (0x0F#8, some (0xD418#16, 0x0F#8)) := by decide +kernel

/-- R371 to R373: the device and RAM both get the byte. -/
theorem test_bus_writes_devices :
    ((after (.busWrCia1 7 0xDC0E) (writing 0xDC0E 0x11 normal)).map
      (fun t => (t.ram.read 0xDC0E, timerRunning .a t.cia1))) = some (0x11#8, true) ∧
    ((after (.busWrCia2 7 0xDD00) (writing 0xDD00 0x03 normal)).map (fun t => (t.ram.read 0xDD00, bankBase t.cia2))) =
      some (0x03#8, 0) ∧
    ((after (.busWrVic 7 0xD021) (writing 0xD021 0x06 normal)).map
      (fun t => (t.ram.read 0xD021, background t.vic.r 0))) = some (0x06#8, 6#4) ∧
    ((after (.busWrVic 7 0xD030) (writing 0xD030 0x12 normal)).map (fun t => (t.ram.read 0xD030, t.vic))) =
      some (0x12#8, normal.vic) := by decide +kernel

/-! ### CIA registers -/

/-- V-CIA and the examples of R196 to R211. -/
theorem test_cia_reads :
    driven .cia2RdPra { normal with cia2 := ciaOf [(0x0, 0x97)] [] } = some 0x97#8 ∧
    driven .cia2RdPrb { normal with cia2 := ciaOf [(0x1, 0x3C)] [] } = some 0x3C#8 ∧
    driven (.ciaRdDdra .cia1) { normal with cia1 := ciaOf [(0x2, 0xFF)] [] } = some 0xFF#8 ∧
    driven (.ciaRdDdrb .cia2) { normal with cia2 := ciaOf [(0x3, 0x00)] [] } = some 0x00#8 ∧
    driven (.ciaRdTod10 .cia1) { normal with cia1 := ciaOf [(0x8, 0x05)] [] } = some 0x05#8 ∧
    driven (.ciaRdTodsec .cia1) normal = some 0x00#8 ∧
    driven (.ciaRdTodmin .cia2) { normal with cia2 := ciaOf [(0xA, 0x59)] [] } = some 0x59#8 ∧
    driven (.ciaRdTodhr .cia1) { normal with cia1 := ciaOf [(0xB, 0x92)] [] } = some 0x92#8 ∧
    driven (.ciaRdSdr .cia1) { normal with cia1 := ciaOf [(0xC, 0xA5)] [] } = some 0xA5#8 := by decide +kernel

/-- R200 to R203, R210, R211: the live counter, not the latch. -/
theorem test_timer_reads :
    driven (.ciaRdTalo .cia1) { normal with cia1 := ciaOf [(0x4, 0x34), (0x5, 0x12)] [(0x4, 0x99)] } = some 0x34#8 ∧
    driven (.ciaRdTahi .cia1) { normal with cia1 := ciaOf [(0x4, 0x34), (0x5, 0x12)] [(0x5, 0x99)] } = some 0x12#8 ∧
    driven (.ciaRdTblo .cia2) { normal with cia2 := ciaOf [(0x6, 0xFF)] [] } = some 0xFF#8 ∧
    driven (.ciaRdTbhi .cia2) { normal with cia2 := ciaOf [(0x6, 0xFF)] [] } = some 0x00#8 ∧
    driven (.ciaRdCra .cia1) { normal with cia1 := ciaOf [(0xE, 0x18)] [] } = some 0x18#8 ∧
    driven (.ciaRdCrb .cia2) { normal with cia2 := ciaOf [(0xF, 0x01)] [] } = some 0x01#8 := by decide +kernel

/-- R209, X3: an ICR read returns the flags, then clears them; the mask stays. -/
theorem test_icr_read :
    ((after (.ciaRdIcr .cia1) { normal with cia1 := ciaOf [(0xD, 0x81)] [(0xD, 0x1F)] }).map
      (fun t => (t.out.dout, t.cia1.r.read 0xD, t.cia1.w.read 0xD))) = some (some 0x81#8, 0x00#8, 0x1F#8) := by
  decide +kernel

/-- V-KEY, the keyboard. -/
theorem test_keyboard :
    keyScan [(0xFE, 0xFD)] 0xFE = 0xFD#8 ∧ keyScan [] 0xFE = 0xFF#8 ∧ keyScan [(0xFE, 0xFD)] 0xFD = 0xFF#8 ∧
    keyScan [(0xFE, 0xFD), (0xFD, 0xFB)] 0xFC = 0xF9#8 ∧ keyScan [(0xFE, 0xFD), (0xFD, 0xFB)] 0xFE = 0xFD#8 ∧
    keyScan [(0x7F, 0x7F)] 0x00 = 0x20#8 ∧ keyScan [] 0x00 = 0xFF#8 ∧ keyScan [(0xFE, 0xFD)] 0xFF = 0xFF#8 ∧
    keyScan [(0xFF, 0x00)] 0x00 = 0x20#8 ∧ keyScan [(0xFF, 0x00)] 0xFE = 0xFF#8 := by decide

/-- V-CIA: a CIA1 port B read is the scan, not the stored byte. -/
theorem test_port_b_read :
    driven .cia1RdPrb { normal with cia1 := ciaOf [(0x0, 0xFE), (0x1, 0x00)] [] } = some 0xFF#8 ∧
    driven .cia1RdPrb
      { normal with
        cia1 := ciaOf [(0x0, 0xFE)] []
        inp := { normal.inp with keys := [(0xFE, 0xFD)] } } = some 0xFD#8 := by decide +kernel

/-- V-KEY, the joystick, for both idle values. -/
theorem test_joystick :
    joyValue 0x7F none = 0x7F#8 ∧ joyValue 0xFF (some ⟨false, false, false, false, false⟩) = 0xFF#8 ∧
    joyValue 0x7F (some ⟨true, false, false, false, false⟩) = 0x7E#8 ∧
    joyValue 0x7F (some ⟨true, false, true, false, false⟩) = 0x7A#8 ∧
    joyValue 0xFF (some ⟨false, false, false, false, true⟩) = 0xEF#8 ∧
    joyValue 0x7F (some ⟨true, true, true, true, true⟩) = 0x60#8 ∧
    joyValue 0xFF (some ⟨true, true, true, true, true⟩) = 0xE0#8 := by decide

/-- R216 to R219, R224 to R228: a plain write reaches both views. -/
theorem test_cia_plain_writes :
    ([(.ciaWrPra .cia1, 0x0), (.ciaWrPrb .cia2, 0x1), (.ciaWrDdra .cia1, 0x2), (.ciaWrDdrb .cia1, 0x3),
      (.ciaWrTod10 .cia1, 0x8), (.ciaWrTodsec .cia1, 0x9), (.ciaWrTodmin .cia2, 0xA), (.ciaWrTodhr .cia1, 0xB),
      (.ciaWrSdr .cia1, 0xC)] : List (Instr × BitVec 4)).all
      (fun p =>
        (after p.1 (writing 0xDC00 0xA5 normal)).any (fun t =>
          (t.cia1.r.read p.2 == 0xA5#8 && t.cia1.w.read p.2 == 0xA5#8 && decide (t.cia2 = Cia.zero)) ||
            (t.cia2.r.read p.2 == 0xA5#8 && t.cia2.w.read p.2 == 0xA5#8 && decide (t.cia1 = Cia.zero)))) = true := by
  decide +kernel

/-- V-CIA: R220 to R223. -/
theorem test_timer_byte_writes :
    ((after (.ciaWrTalo .cia1) (writing 0xDC04 0x10 normal)).map (fun t => (timerCounter .a t.cia1, timerLatch .a t.cia1))) =
      some (0x0000#16, 0x0010#16) ∧
    ((after (.ciaWrTblo .cia2) (writing 0xDD06 0x03 normal)).map (fun t => (timerCounter .b t.cia2, timerLatch .b t.cia2))) =
      some (0x0000#16, 0x0003#16) ∧
    ((after (.ciaWrTahi .cia1) (writing 0xDC05 0x00 { normal with cia1 := ciaOf [] [(0x4, 0x10)] })).map
      (fun t => timerCounter .a t.cia1)) = some 0x0010#16 ∧
    ((after (.ciaWrTbhi .cia2) (writing 0xDD07 0x01 { normal with cia2 := ciaOf [] [(0x6, 0x03)] })).map
      (fun t => timerCounter .b t.cia2)) = some 0x0103#16 := by decide +kernel

/-- V-TMR: a high-byte write while the timer runs leaves the counter; the strobe then loads it. -/
theorem test_running_timer_writes :
    ((after (.ciaWrTahi .cia1)
        (writing 0xDC05 0x56 { normal with cia1 := ciaOf [(0x4, 0x34), (0x5, 0x12), (0xE, 0x01)] [(0x4, 0x34)] })).map
      (fun t => (timerCounter .a t.cia1, timerLatch .a t.cia1))) = some (0x1234#16, 0x5634#16) ∧
    ((after (.ciaWrCra .cia1)
        (writing 0xDC0E 0x11 { normal with cia1 := ciaOf [(0x4, 0x34), (0x5, 0x12), (0xE, 0x01)] [(0x4, 0x34), (0x5, 0x56)] })).map
      (fun t => (timerCounter .a t.cia1, t.cia1.r.read 0xE, t.cia1.w.read 0xE))) = some (0x5634#16, 0x11#8, 0x11#8) ∧
    ((after (.ciaWrCrb .cia2)
        (writing 0xDD0F 0x01 { normal with cia2 := ciaOf [(0x6, 0x34)] [(0x6, 0x10)] })).map
      (fun t => (timerCounter .b t.cia2, t.cia2.r.read 0xF))) = some (0x0034#16, 0x01#8) := by decide +kernel

/-- X2: the ICR mask writes in sequence. -/
theorem test_icr_mask_writes :
    icrMaskWrite 0x81 0x00 = 0x01#8 ∧ icrMaskWrite 0x82 0x01 = 0x03#8 ∧ icrMaskWrite 0x9F 0x03 = 0x1F#8 ∧
    icrMaskWrite 0x01 0x1F = 0x1E#8 ∧ icrMaskWrite 0x80 0x1E = 0x1E#8 ∧ icrMaskWrite 0x00 0x1E = 0x1E#8 ∧
    icrMaskWrite 0x7F 0x1E = 0x00#8 ∧ icrMaskWrite 0xFF 0x00 = 0x1F#8 := by decide

/-- R229: the write reaches the mask, not the flags. -/
theorem test_icr_write :
    ((after (.ciaWrIcr .cia1) (writing 0xDC0D 0x81 { normal with cia1 := ciaOf [(0xD, 0x82)] [] })).map
      (fun t => (t.cia1.r.read 0xD, t.cia1.w.read 0xD))) = some (0x82#8, 0x01#8) := by decide +kernel

/-! ### Timers -/

/-- V-TMR: an unmasked underflow in continuous mode. -/
theorem test_timer_underflow :
    let c := timerTick .a (ciaOf [(0x4, 0x01), (0xE, 0x01)] [(0x4, 0x10), (0xD, 0x01), (0xE, 0x01)])
    timerCounter .a c = 0x0010#16 ∧ c.r.read 0xD = 0x81#8 ∧
      timerSignal .a (ciaOf [(0x4, 0x01), (0xE, 0x01)] [(0x4, 0x10), (0xD, 0x01), (0xE, 0x01)]) = true := by decide

/-- V-TMR: a masked single-shot underflow stops the timer at 0 and sets no flag. -/
theorem test_timer_single_shot :
    let c := timerTick .a (timerTick .a (ciaOf [(0x4, 0x02), (0xE, 0x09)] [(0xE, 0x09)]))
    timerCounter .a c = 0x0000#16 ∧ c.r.read 0xD = 0x00#8 ∧ c.r.read 0xE = 0x08#8 ∧ c.w.read 0xE = 0x08#8 := by decide

/-- R176: a zero count wraps. -/
theorem test_timer_wrap :
    let c := timerTick .b (ciaOf [(0xF, 0x01)] [(0xD, 0x02)])
    timerCounter .b c = 0xFFFF#16 ∧ c.r.read 0xD = 0x00#8 := by decide

/-- V-TMR: both timers of a CIA underflow in one clock. -/
theorem test_cia_clock :
    let c := ciaOf [(0x4, 0x01), (0x6, 0x01), (0xE, 0x01), (0xF, 0x01)] [(0xD, 0x03)]
    ciaSignal c = true ∧ (ciaTick c).r.read 0xD = 0x83#8 := by decide

/-! ### VIC registers -/

/-- R262 and R265 to R276: a plain byte reads back whole. -/
theorem test_vic_plain_reads :
    ([(.vicRdSprpos 0x00, 0x00), (.vicRdLp 0x13, 0x13), (.vicRdSpren, 0x15), (.vicRdCr2, 0x16), (.vicRdSpryex, 0x17),
      (.vicRdMemptr, 0x18), (.vicRdIrqmask, 0x1A), (.vicRdSprmisc 0x1C, 0x1C), (.vicRdColl 0x1E, 0x1E),
      (.vicRdBorder, 0x20), (.vicRdBg 0x21, 0x21), (.vicRdSprcol 0x27, 0x27)] : List (Instr × BitVec 6)).all
      (fun p => driven p.1 { normal with vic := vicOf [(p.2, 0xA5)] [] 0 } == some 0xA5#8) = true := by decide +kernel

/-- V-VIC: R263, R264, R277. -/
theorem test_vic_live_reads :
    driven .vicRdCr1 { normal with vic := vicOf [(0x11, 0x1B)] [] 300 } = some 0x9B#8 ∧
    driven .vicRdRaster { normal with vic := vicOf [] [(0x12, 0xFF)] 300 } = some 0x2C#8 ∧
    driven (.vicRdUnused 0x3F) normal = some 0xFF#8 := by decide +kernel

/-- V-VIC: R270. -/
theorem test_vic_flag_read :
    ((after .vicRdIrqflag { normal with vic := vicOf [(0x19, 0x81)] [] 0 }).map (fun t => (t.out.dout, t.vic.r.read 0x19))) =
      some (some 0x81#8, 0x00#8) := by decide +kernel

/-- R280 and R283 to R294: a plain write stores the byte whole. -/
theorem test_vic_plain_writes :
    ([(.vicWrSprpos 0x10, 0x10), (.vicWrLp 0x13, 0x13), (.vicWrSpren, 0x15), (.vicWrCr2, 0x16), (.vicWrSpryex, 0x17),
      (.vicWrMemptr, 0x18), (.vicWrIrqmask, 0x1A), (.vicWrSprmisc 0x1D, 0x1D), (.vicWrColl 0x1F, 0x1F),
      (.vicWrBorder, 0x20), (.vicWrBg 0x21, 0x21), (.vicWrSprcol 0x2E, 0x2E)] : List (Instr × BitVec 6)).all
      (fun p => (after p.1 (writing 0xD000 0xA5 normal)).any (fun t => decide (t.vic = vicOf [(p.2, 0xA5)] [] 0))) = true := by
  decide +kernel

/-- V-VIC: R281, R282, R295. -/
theorem test_vic_latch_writes :
    ((after .vicWrCr1 (writing 0xD011 0x9B normal)).map (fun t => t.vic)) = some (vicOf [(0x11, 0x1B)] [(0x11, 0x9B)] 0) ∧
    ((after .vicWrRaster (writing 0xD012 0xFF { normal with vic := vicOf [] [] 7 })).map (fun t => t.vic)) =
      some (vicOf [] [(0x12, 0xFF)] 7) ∧
    ((after (.vicWrUnused 0x30) (writing 0xD030 0x12 normal)).map (fun t => t.vic)) = some normal.vic := by decide +kernel

/-- V-VIC: R288. -/
theorem test_vic_flag_write :
    vicFlagWrite 0x0E 0x81 = 0x81#8 ∧ vicFlagWrite 0x01 0x81 = 0x00#8 ∧
    ((after .vicWrIrqflag (writing 0xD019 0x01 { normal with vic := vicOf [(0x19, 0x81)] [] 0 })).map
      (fun t => t.vic.r.read 0x19)) = some 0x00#8 := by decide +kernel

/-! ### The raster -/

/-- The suggested geometry of 00_scope.md R13. -/
def pal : VideoParams := { cyclesPerLine := 63, totalLines := 312, fbFirstLine := 51 }

/-- V-RST: the next line, and the wrap. -/
theorem test_vic_lines :
    vicTick pal { vicOf [] [] 10 with cycle := 62 } = vicOf [] [] 11 ∧
    (vicTick pal { vicOf [(0x1A, 0x01)] [] 311 with cycle := 62 }).line = 0 ∧
    vicTick pal { vicOf [] [] 10 with cycle := 61 } = { vicOf [] [] 10 with cycle := 62 } := by decide +kernel

/-- X5: the compare at 0, 255, 256, the last line, beyond it, and masked. -/
theorem test_raster_compare :
    ([(0x00, 0x00, 311, true), (0xFF, 0x00, 254, true), (0x00, 0x80, 255, true), (0x37, 0x80, 310, true),
      (0x38, 0x80, 311, false), (0x05, 0x00, 5, false)] : List (Byte × Byte × BitVec 9 × Bool)).all
      (fun p =>
        ((vicTick pal { vicOf [(0x1A, 0x01)] [(0x12, p.1), (0x11, p.2.1)] p.2.2.1 with cycle := 62 }).r.read 0x19 ==
          (if p.2.2.2 then 0x81#8 else 0x00#8))) = true ∧
    (vicTick pal { vicOf [] [(0x12, 0x05)] 4 with cycle := 62 }).r.read 0x19 = 0x00#8 := by decide +kernel

/-! ### The renderer: V-REN -/

/-- A character ROM with one byte set. -/
def rom (a : BitVec 12) (v : Byte) (x : BitVec 12) : Byte := if x = a then v else 0x00

/-- The four bytes of line ly of cell n. -/
def cellBytes (src : VideoSource) (n ly : Nat) : List Byte := packPixels (cellPixels src n ly)

theorem test_render_standard_text :
    cellBytes ⟨rom 0x008 0x7E, 0, [(0x0400, 0x01), (0xD800, 0x01)], regs [(0x11, 0x10), (0x18, 0x14)]⟩ 0 0 =
      [0x01, 0x11, 0x11, 0x10] ∧
    cellBytes ⟨rom 0x008 0x00, 0xC000, [(0xC400, 0x01), (0xD008, 0x7E), (0xD800, 0x01)], regs [(0x18, 0x14)]⟩ 0 0 =
      [0x01, 0x11, 0x11, 0x10] ∧
    cellBytes ⟨rom 0x00B 0x81, 0, [(0x0429, 0x01), (0xD829, 0x0F)], regs [(0x18, 0x14), (0x21, 0x06)]⟩ 41 3 =
      [0xF6, 0x66, 0x66, 0x6F] := by decide +kernel

theorem test_render_multicolour_text :
    cellBytes ⟨rom 0x000 0x1B, 0, [(0xD800, 0x09)], regs [(0x16, 0x10), (0x18, 0x14), (0x22, 0x02), (0x23, 0x03)]⟩ 0 0 =
      [0x00, 0x22, 0x33, 0x11] ∧
    cellBytes ⟨rom 0x000 0x1B, 0, [(0xD800, 0x05)], regs [(0x16, 0x10), (0x18, 0x14)]⟩ 0 0 = [0x00, 0x05, 0x50, 0x55] := by
  decide +kernel

theorem test_render_extended_text :
    cellBytes ⟨rom 0x000 0x00, 0, [(0x0400, 0xC1)], regs [(0x11, 0x40), (0x18, 0x14), (0x24, 0x07)]⟩ 0 0 =
      [0x77, 0x77, 0x77, 0x77] ∧
    cellBytes ⟨rom 0x008 0x7E, 0, [(0x0400, 0x41), (0xD800, 0x02)], regs [(0x11, 0x40), (0x18, 0x14), (0x22, 0x05)]⟩ 0 0 =
      [0x52, 0x22, 0x22, 0x25] := by decide +kernel

theorem test_render_bitmap :
    cellBytes ⟨rom 0 0, 0, [(0x0400, 0x1E), (0x2000, 0xF0)], regs [(0x11, 0x20), (0x18, 0x18)]⟩ 0 0 =
      [0x11, 0x11, 0xEE, 0xEE] ∧
    cellBytes ⟨rom 0 0, 0, [(0x0400, 0x52), (0x2000, 0x1B), (0xD800, 0x07)], regs [(0x11, 0x20), (0x16, 0x10), (0x18, 0x18)]⟩
      0 0 = [0x00, 0x55, 0x22, 0x77] ∧
    cellBytes ⟨rom 0 0xFF, 0, [(0xD800, 0x07)], regs [(0x11, 0x60), (0x18, 0x18), (0x21, 0x05)]⟩ 0 0 =
      [0x00, 0x00, 0x00, 0x00] := by decide +kernel

/-! ### CLK and RESET -/

/-- X4: the visibility table. -/
theorem test_visibility :
    (List.range 8).map (fun m =>
        let v := visibilityOf (BitVec.ofNat 3 m)
        (v.basic, v.kernal, v.io, v.char)) =
      [(false, false, false, false), (false, false, false, true), (false, true, false, true), (true, true, false, true),
        (false, false, false, false), (false, false, true, false), (false, true, true, false), (true, true, true, false)] := by
  decide

/-- V-BUS: `ram[2] = $2A`, RD $0002; and the tick runs before the read of the ICR. -/
theorem test_clk_reads :
    driven .clk (reading 0x0002 { normal with ram := [(1, 0x07), (2, 0x2A)] }) = some 0x2A#8 ∧
    driven .clk (reading 0xDC0D { normal with cia1 := ciaOf [(0x4, 0x01), (0xE, 0x01)] [(0xD, 0x01)] }) = some 0x81#8 := by
  decide +kernel

/-- V-INT: an NMI edge in the CLK of the underflow, none when masked. -/
theorem test_clk_nmi :
    ((after .clk (reading 0 { normal with cia2 := ciaOf [(0x6, 0x01), (0xF, 0x01)] [(0xD, 0x02)] })).map
      (fun t => (t.out.nmiEdge, t.out.signalNmi))) = some (true, [true, false]) ∧
    ((after .clk (reading 0 { normal with cia2 := ciaOf [(0x6, 0x01), (0xF, 0x01)] [] })).map
      (fun t => (t.out.nmiEdge, t.cia2.r.read 0xD))) = some (false, 0x00#8) := by decide +kernel

/-- R450: RESET clears the devices and leaves RAM. -/
theorem test_reset :
    ((after .reset { normal with cia1 := ciaOf [(0xD, 0x81)] [(0xD, 0x1F)], vic := vicOf [(0x19, 0x81)] [] 9, fb := [(3, 0x11)] }).map
      (fun t => (t.cia1, t.vic, t.fb, t.ram))) = some (Cia.zero, Vic.zero, [], normal.ram) := rfl

/-- V-RES: a handshake CLK routes nothing: a write offered in it is lost. -/
theorem test_handshake_clk :
    ((after .clk (writing 0x1000 0x55 { normal with rstLeft := 3 })).map (fun t => (t.rstLeft, t.ram, t.out.dout))) =
      some (2, normal.ram, none) := by decide +kernel

/-! ### Witnesses: states and operands that meet the hypotheses of the statements, together, clause by clause -/

theorem test_witness_DecodeOfEncode : (Instr.busRdRam 7 0x9FFF).wellFormed = true ∧ Instr.reset.wellFormed = true := by decide

/-- The same for VisibilityFollowsMode and NmiEdgeIsAnUnmaskedUnderflow, with a CIA2 timer at 1 and unmasked in the second. -/
theorem test_witness_Normal :
    Normal normal ∧ Normal { normal with cia2 := ciaOf [(0x4, 0x01), (0xE, 0x01)] [(0xD, 0x01)] } := ⟨⟨rfl, rfl⟩, ⟨rfl, rfl⟩⟩

theorem test_witness_StepRunsNextCall :
    decodeWord (.event (eventCode (nextCall { normal with calls := [.reset] }))) = .ok .reset ∧
    decodeWord (.event (eventCode (nextCall { normal with calls := [.clk Inputs.initial] }))) = .ok .clk ∧
    normal.calls = [] := by decide

theorem test_witness_ClkRunsDecodedCycle :
    Normal (reading 0xD3FF normal) ∧
    decodeWord (.bus (busWord (reading 0xD3FF normal).inp.rw
      (((reading 0xD3FF normal).ram.read 0x0001).extractLsb' 0 3) (reading 0xD3FF normal).inp.a)) =
      .ok (.busRdVic 7 0xD3FF) := ⟨⟨rfl, rfl⟩, by decide⟩

theorem test_witness_ClkCompletesWithIrqLevel :
    normal.everReset = true ∧ normal.irqSeen = false ∧
    ({ normal with cia1 := ciaOf [(0xD, 0x81)] [] } : State).everReset = true := ⟨rfl, rfl, rfl⟩

/-- The last handshake CLK, and a normal one at cycle 0. -/
theorem test_witness_HandshakeClkIgnoresTheBus :
    ({ normal with rstLeft := 1 } : State).everReset = true ∧ 0 < ({ normal with rstLeft := 1 } : State).rstLeft ∧
    Normal normal ∧ normal.vic.cycle = 0 := ⟨rfl, by decide, ⟨rfl, rfl⟩, rfl⟩

theorem test_witness_ClkBeforeFirstResetRefused : (State.construct []).everReset = false := rfl

/-- A step that is refused: a CLK called before the first RESET. -/
theorem test_witness_StepNeverFaults :
    (match step { State.construct [] with calls := [.clk Inputs.initial] } with
      | .next _ => false
      | .fault _ => false
      | .refused r => decide (r = .clkBeforeReset)) = true := by decide +kernel

/-- A CLK with CIA1's request pending that reads CIA1's port A, one with the VIC's pending that reads $D018, and a handshake CLK. -/
theorem test_witness_IrqHeldUntilAcknowledged :
    (∃ t, exec .clk (reading 0xDC00 { normal with cia1 := ciaOf [(0xD, 0x81)] [] }) = .next t) ∧
    ((reading 0xDC00 { normal with cia1 := ciaOf [(0xD, 0x81)] [] }).cia1.r.read 0xD#4).getLsbD 7 = true ∧
    ¬readsCia (reading 0xDC00 { normal with cia1 := ciaOf [(0xD, 0x81)] [] }) .cia1 0xD#4 ∧
    (∃ t, exec .clk (reading 0xD018 { normal with vic := vicOf [(0x19, 0x81)] [] 0 }) = .next t) ∧
    ((reading 0xD018 { normal with vic := vicOf [(0x19, 0x81)] [] 0 }).vic.r.read 0x19#6).getLsbD 7 = true ∧
    ¬accessesVic (reading 0xD018 { normal with vic := vicOf [(0x19, 0x81)] [] 0 }) 0x19#6 ∧
    ¬Normal { normal with rstLeft := 1 } := by
  refine ⟨?_, by decide, ?_, ?_, by decide, ?_, ?_⟩
  · obtain ⟨u, -, -, h⟩ := execClk_normal (s := reading 0xDC00 { normal with cia1 := ciaOf [(0xD, 0x81)] [] }) rfl rfl
    exact ⟨_, h⟩
  · rintro ⟨-, -, h⟩; exact absurd h (by decide)
  · obtain ⟨u, -, -, h⟩ := execClk_normal (s := reading 0xD018 { normal with vic := vicOf [(0x19, 0x81)] [] 0 }) rfl rfl
    exact ⟨_, h⟩
  · rintro ⟨-, h⟩; exact absurd h (by decide)
  · rintro ⟨-, h⟩; exact absurd h (by decide)

/-- A write CLK at the top of the address space, a read CLK, and RESET. -/
theorem test_witness_OnlyBusWritesChangeRam :
    (writing 0xFFFF 0x55 normal).ram.wf ramSize = true ∧ (∃ t, exec .clk (writing 0xFFFF 0x55 normal) = .next t) ∧
    Normal (writing 0xFFFF 0x55 normal) ∧ (writing 0xFFFF 0x55 normal).inp.rw = false ∧
    (∃ t, exec .clk (reading 0xFFFF normal) = .next t) ∧ ¬(reading 0xFFFF normal).inp.rw = false ∧
    (∃ t, exec .reset normal = .next t) := by
  refine ⟨by decide, ?_, ⟨rfl, rfl⟩, rfl, ?_, by decide, ⟨_, rfl⟩⟩
  · obtain ⟨u, -, -, h⟩ := execClk_normal (s := writing 0xFFFF 0x55 normal) rfl rfl
    exact ⟨_, h⟩
  · obtain ⟨u, -, -, h⟩ := execClk_normal (s := reading 0xFFFF normal) rfl rfl
    exact ⟨_, h⟩

theorem test_witness_LiveInputsReachOnlyTheDataBus : ∃ t, exec .clk (reading 0xDC01 normal) = .next t := by
  obtain ⟨u, -, -, h⟩ := execClk_normal (s := reading 0xDC01 normal) rfl rfl
  exact ⟨_, h⟩

/-- Addresses at the edges of each window, for the statements on bus reads and writes. -/
theorem test_witness_BusTargets :
    readTarget 7 0x9FFF = some .ram ∧ readTarget 0 0xA000 = some .ram ∧ readTarget 7 0xD800 = some .color ∧
    readTarget 5 0xDBFF = some .color ∧ readTarget 7 0xDE00 = some .ioexp ∧ readTarget 6 0xDFFF = some .ioexp ∧
    readTarget 1 0xD000 = some .char ∧ readTarget 3 0xDFFF = some .char ∧ readTarget 3 0xA000 = some .basic ∧
    readTarget 7 0xBFFF = some .basic ∧ readTarget 2 0xE000 = some .kernal ∧ readTarget 7 0xFFFF = some .kernal ∧
    readTarget 7 0xD400 = some .sid ∧ readTarget 7 0xD7FF = some .sid ∧ readTarget 7 0xD000 = some .vic ∧
    readTarget 5 0xD3FF = some .vic ∧ readTarget 7 0xDC00 = some .cia1 ∧ readTarget 6 0xDCFF = some .cia1 ∧
    readTarget 7 0xDD00 = some .cia2 ∧ readTarget 5 0xDDFF = some .cia2 ∧
    plainWrite 7 0xFFFF = true ∧ plainWrite 3 0xD000 = true := by decide

theorem test_witness_BusWritesOfRam : normal.ram.wf ramSize = true ∧ Memory.wf ramSize [] = true := by decide

theorem test_witness_BusAccessRunsItsRow :
    decodeWord (.vic (vicWord true (BitVec.ofNat 6 (0xD3FF#16).toNat))) = .ok (.vicRdUnused 0x3F) ∧
    decodeWord (.vic (vicWord false (BitVec.ofNat 6 (0xD000#16).toNat))) = .ok (.vicWrSprpos 0x00) ∧
    decodeWord (.cia (ciaWord .cia1 true (BitVec.ofNat 4 (0xDCFF#16).toNat))) = .ok (.ciaRdCrb .cia1) ∧
    decodeWord (.cia (ciaWord .cia2 true (BitVec.ofNat 4 (0xDD00#16).toNat))) = .ok .cia2RdPra ∧
    decodeWord (.cia (ciaWord .cia1 false (BitVec.ofNat 4 (0xDC00#16).toNat))) = .ok (.ciaWrPra .cia1) ∧
    decodeWord (.cia (ciaWord .cia2 false (BitVec.ofNat 4 (0xDDFF#16).toNat))) = .ok (.ciaWrCrb .cia2) ∧
    0x2F ≤ (0xD02F#16).toNat % 64 := by decide

/-- No joystick, and one with fire held; no key, one key with the busy probe, and a key under a row select. -/
theorem test_witness_LivePorts :
    normal.inp.joy = none ∧
    ({ normal.inp with joy := some ⟨false, false, false, false, true⟩ } : Inputs).joy = some ⟨false, false, false, false, true⟩ ∧
    (normal.cia1.r.read 0x0#4 = 0x00#8 ∧ ({ normal.inp with keys := [(0xFE, 0xFD)] } : Inputs).keys ≠ []) ∧
    ¬(normal.cia1.r.read 0x0#4 = 0x00#8 ∧ normal.inp.keys ≠ []) ∧
    ¬((ciaOf [(0x0, 0xFE)] []).r.read 0x0#4 = 0x00#8) := by decide

/-- One of the writes that the two statements on plain writes name. -/
theorem test_witness_PlainWrites :
    (Instr.ciaWrSdr .cia2 = .ciaWrSdr .cia2 ∧ 0xC#4 = 0xC#4) ∧ (Instr.vicWrSprcol 0x2E = .vicWrSprcol 0x2E ∧ 0x2E#6 = 0x2E#6) :=
  ⟨⟨rfl, rfl⟩, ⟨rfl, rfl⟩⟩

/-- A stopped timer and a running one. -/
theorem test_witness_TimerHighByteWrites :
    ((ciaOf [] []).r.read 0xE#4).getLsbD 0 = false ∧ ((ciaOf [(0xE, 0x01)] []).r.read 0xE#4).getLsbD 0 = true ∧
    ((ciaOf [] []).r.read 0xF#4).getLsbD 0 = false ∧ ((ciaOf [(0xF, 0x01)] []).r.read 0xF#4).getLsbD 0 = true := by decide

/-- Stopped; running at 2; running at 1, single-shot and continuous. -/
theorem test_witness_TimerTickCases :
    ((ciaOf [] []).r.read (timerCr .a)).getLsbD 0 = false ∧
    ((ciaOf [(0x4, 0x02), (0xE, 0x01)] []).r.read (timerCr .a)).getLsbD 0 = true ∧
    timerCounter .a (ciaOf [(0x4, 0x02), (0xE, 0x01)] []) ≠ 1#16 ∧
    ((ciaOf [(0x6, 0x01), (0xF, 0x09)] []).r.read (timerCr .b)).getLsbD 0 = true ∧
    timerCounter .b (ciaOf [(0x6, 0x01), (0xF, 0x09)] []) = 1#16 ∧
    ((ciaOf [(0x6, 0x01), (0xF, 0x09)] []).r.read (timerCr .b)).getLsbD 3 = true ∧
    ((ciaOf [(0x6, 0x01), (0xF, 0x01)] []).r.read (timerCr .b)).getLsbD 0 = true ∧
    timerCounter .b (ciaOf [(0x6, 0x01), (0xF, 0x01)] []) = 1#16 ∧
    ((ciaOf [(0x6, 0x01), (0xF, 0x01)] []).r.read (timerCr .b)).getLsbD 3 = false := by decide

theorem test_witness_TimerCountLaw :
    timerRunning .a (ciaOf [(0x4, 0x01), (0xE, 0x01)] [(0xD, 0x01)]) = true ∧
    timerCounter .a (ciaOf [(0x4, 0x01), (0xE, 0x01)] [(0xD, 0x01)]) ≠ 0#16 ∧
    ((ciaOf [(0x4, 0x01), (0xE, 0x01)] [(0xD, 0x01)]).w.read 0xD#4).getLsbD (timerBit .a) = true ∧
    0 < (timerCounter .a (ciaOf [(0x4, 0x01), (0xE, 0x01)] [(0xD, 0x01)])).toNat := by decide

theorem test_witness_ZeroCountLasts65536Ticks :
    timerRunning .b (ciaOf [(0xF, 0x01)] []) = true ∧ timerCounter .b (ciaOf [(0xF, 0x01)] []) = 0#16 := by decide

/-- The first and last index of a group, and of the indices without a register. -/
theorem test_witness_VicGroups :
    ((0x10#6).toNat ≤ 0x10) ∧ (0x13 ≤ (0x13#6).toNat ∧ (0x14#6).toNat ≤ 0x14) ∧ (0x1B ≤ (0x1B#6).toNat ∧ (0x1D#6).toNat ≤ 0x1D) ∧
    (0x1E ≤ (0x1E#6).toNat ∧ (0x1F#6).toNat ≤ 0x1F) ∧ (0x21 ≤ (0x21#6).toNat ∧ (0x24#6).toNat ≤ 0x24) ∧
    (0x25 ≤ (0x25#6).toNat ∧ (0x2E#6).toNat ≤ 0x2E) ∧ 0x2F ≤ (0x2F#6).toNat ∧ 0x2F ≤ (0x3F#6).toNat := by decide

/-- Within a line, at its end, and a target beyond the frame; the bounds of the frame's height too. -/
theorem test_witness_VicTick :
    2 ≤ pal.totalLines ∧ pal.totalLines ≤ 512 ∧ (vicOf [] [] 0).cycle + 1 < pal.cyclesPerLine ∧
    pal.cyclesPerLine ≤ ({ vicOf [] [] 0 with cycle := 62 } : Vic).cycle + 1 ∧
    pal.totalLines ≤ ((vicOf [] [(0x11, 0x80), (0x12, 0x38)] 0).w.read 0x12#6).toNat +
      (if ((vicOf [] [(0x11, 0x80), (0x12, 0x38)] 0).w.read 0x11#6).getLsbD 7 then 256 else 0) := by decide

/-- Rows 0 and 199 begin with DEN set; DEN clear; the lines just before and just after the window. -/
theorem test_witness_VisibleLineRendersItsRow :
    normal.fb.wf fbSize = true ∧ ((vicOf [(0x11, 0x10)] [] 50).r.read 0x11#6).getLsbD 4 = true ∧
    ((vicOf [(0x11, 0x10)] [] 50).line.toNat + 1) % pal.totalLines = pal.fbFirstLine + 0 ∧
    ((vicOf [(0x11, 0x10)] [] 249).line.toNat + 1) % pal.totalLines = pal.fbFirstLine + 199 ∧
    ((vicOf [] [] 50).r.read 0x11#6).getLsbD 4 = false ∧
    ((vicOf [] [] 49).line.toNat + 1) % pal.totalLines < pal.fbFirstLine ∧
    pal.fbFirstLine + 200 ≤ ((vicOf [] [] 250).line.toNat + 1) % pal.totalLines := by decide +kernel

/-- Banks and offsets at the edges of the character ROM's window, and outside it. -/
theorem test_witness_VideoAddressesAndFetches :
    bankBase (ciaOf [(0x0, 0x03)] []) = 0x0000 ∧ bankBase (ciaOf [(0x0, 0x01)] []) = 0x8000 ∧
    bankBase (ciaOf [(0x0, 0x02)] []) = 0x4000 ∧ bankBase (ciaOf [] []) = 0xC000 ∧
    (0x1000 ≤ 0x1000 ∧ 0x1FFF ≤ 0x1FFF) ∧ ¬(0x1000 ≤ 0x0FFF) ∧ ¬(0x2000 ≤ 0x1FFF) := by decide

/-- R314's largest offsets: the last cell, the last line of the last code and of the last cell. -/
theorem test_witness_FetchOffsetsStayInTheBank :
    999 < 1000 ∧ 255 < 256 ∧ 7 < 8 ∧ matrixOff (regs [(0x18, 0xFF)]) + 999 = 0x3C00 + 999 ∧
    charOff (regs [(0x18, 0xFF)]) + 255 * 8 + 7 = 0x3800 + 0x7FF ∧
    bitmapOff (regs [(0x18, 0xFF)]) + 999 * 8 + 7 = 0x2000 + 7999 := by decide +kernel

/-- R310: the bank a render takes is CIA2's, not CIA1's. -/
theorem test_render_bank :
    (videoSource { normal with cia1 := ciaOf [(0x0, 0x03)] [], cia2 := ciaOf [(0x0, 0x02)] [] }).bankBase = 0x4000 ∧
    (videoSource { normal with cia1 := ciaOf [(0x0, 0x02)] [], cia2 := ciaOf [(0x0, 0x97)] [] }).bankBase = 0x0000 := by decide

/-- Mode bits and colours that meet each clause of the two statements on pixels. -/
theorem test_witness_ModePixels :
    (videoMode (regs []) = .standardText ∧ videoMode (regs [(0x16, 0x10)]) = .multicolourText ∧
      videoMode (regs [(0x11, 0x40)]) = .extendedText ∧ videoMode (regs [(0x11, 0x20)]) = .standardBitmap ∧
      videoMode (regs [(0x11, 0x20), (0x16, 0x10)]) = .multicolourBitmap ∧
      videoMode (regs [(0x11, 0x60)]) = .invalid ∧ videoMode (regs [(0x11, 0x40), (0x16, 0x10)]) = .invalid) ∧
    (cellColour ⟨rom 0 0, 0, [(0xD800, 0x07)], regs []⟩ 0).getLsbD 3 = false ∧
    (cellColour ⟨rom 0 0, 0, [(0xD800, 0x08)], regs []⟩ 0).getLsbD 3 = true := by decide +kernel

/-- The invariant holds after the handshake, in a state that no RESET leaves: a flag pending and a byte in RAM. -/
theorem test_witness_StepKeepsTheInvariant :
    MachineInv { normal with cia1 := ciaOf [(0xD, 0x81)] [(0xD, 0x01)], out := { Outputs.idle with irq := true } } where
  ram := by decide
  fb := by decide
  cia1 := ⟨by decide, by decide, by decide⟩
  cia2 := ⟨by decide, by decide, by decide⟩
  vic := ⟨by decide, by decide, by decide +kernel, by decide +kernel, Nat.succ_pos _, Nat.succ_pos _⟩
  handshake := Nat.zero_le _
  started := rfl
  irq := by decide

end Sys2Proof.Tests
end

section
/-! PROOFS. A step in terms of the host's next call: every call's event code is a row of the EVENT table, so a step is the exec of
that row's operation; and what the next call and the rest are, for a listed call and for a free draw (log 4). -/

namespace Sys2Proof.Machine

/-- The operation of a call (30_encoding.md R145, R157). -/
def callInstr : HostCall → Instr
  | .clk _ => .clk
  | .reset => .reset

@[simp] theorem decodeWord_eventCode (c : HostCall) : decodeWord (.event (eventCode c)) = .ok (callInstr c) := by
  cases c with
  | clk inp => exact (by decide : decodeWord (.event 0#1) = .ok .clk)
  | reset => exact (by decide : decodeWord (.event 1#1) = .ok .reset)

theorem nextCall_of_calls_cons {s : State} {c : HostCall} {cs : List HostCall} (h : s.calls = c :: cs) :
    nextCall s = c := by
  simp only [nextCall, h]

theorem nextCall_of_calls_nil {s : State} (h : s.calls = []) : nextCall s = Config.hostCall s.drawn := by
  simp only [nextCall, h]

theorem takeCall_of_calls_cons {s : State} {c : HostCall} {cs : List HostCall} (h : s.calls = c :: cs) :
    takeCall s = { s with calls := cs } := by
  simp only [takeCall, h]

theorem takeCall_of_calls_nil {s : State} (h : s.calls = []) : takeCall s = { s with drawn := s.drawn + 1 } := by
  simp only [takeCall, h]

theorem step_of_decode {s : State} {i : Instr} (h : decodeWord (.event (eventCode (nextCall s))) = .ok i) :
    step s = exec i (latchInputs (nextCall s) (takeCall s)) := by
  simp only [step, h]

/-- The refusal `noEvent` is never reached: a step is always the exec of its call's operation. -/
theorem step_eq_exec (s : State) :
    step s = exec (callInstr (nextCall s)) (latchInputs (nextCall s) (takeCall s)) :=
  step_of_decode (decodeWord_eventCode (nextCall s))

theorem step_of_calls_cons {s : State} {c : HostCall} {cs : List HostCall} (h : s.calls = c :: cs) :
    step s = exec (callInstr c) (latchInputs c { s with calls := cs }) := by
  rw [step_eq_exec, nextCall_of_calls_cons h, takeCall_of_calls_cons h]

theorem step_of_calls_nil {s : State} (h : s.calls = []) :
    step s = exec (callInstr (Config.hostCall s.drawn))
      (latchInputs (Config.hostCall s.drawn) { s with drawn := s.drawn + 1 }) := by
  rw [step_eq_exec, nextCall_of_calls_nil h, takeCall_of_calls_nil h]

/-- Settles O7: the first clause is the decoded branch of `step`; the others are a step on a listed call and on a free draw. -/
theorem stepRunsNextCall : Obligations.StepRunsNextCall := by
  unfold Obligations.StepRunsNextCall
  refine ⟨fun s i => step_of_decode, fun s inp cs => ?listedClk, fun s cs => ?listedReset, fun s hnone => ?free⟩
  case listedClk => exact step_of_calls_cons (s := { s with calls := .clk inp :: cs }) rfl
  case listedReset => exact step_of_calls_cons (s := { s with calls := .reset :: cs }) rfl
  case free =>
    rw [step_of_calls_nil hnone]
    cases Config.hostCall s.drawn with
    | clk inp => rfl
    | reset => rfl

end Sys2Proof.Machine
end

section
/-! PROOFS. What holds of a CIA in every run: the rules for a write of one register of either view, then the timer tick and every
register operation, each a use of these rules (10_state.md R45, R52-R54). -/

namespace Sys2Proof.Machine

/-- The ICR flag values of a run: no timer's flag stands without the aggregate, nor the aggregate without a timer's flag
(10_state.md R52). -/
def IsIcrFlags (v : Byte) : Prop := v = 0x00#8 ∨ v = 0x81#8 ∨ v = 0x82#8 ∨ v = 0x83#8

theorem IsIcrFlags.icrRaise {v : Byte} (h : IsIcrFlags v) (x : TimerId) : IsIcrFlags (icrRaise (timerBit x) v) := by
  unfold IsIcrFlags at *
  rcases h with rfl | rfl | rfl | rfl <;> cases x <;> decide

theorem icrMaskWrite_high (d : Byte) {mask : Byte} (h : mask &&& 0xE0#8 = 0x00#8) :
    icrMaskWrite d mask &&& 0xE0#8 = 0x00#8 := by
  unfold icrMaskWrite
  split
  · rw [BitVec.and_or_distrib_right, h, BitVec.and_assoc]; simp
  · rw [BitVec.and_assoc, BitVec.and_comm _ 0xE0#8, ← BitVec.and_assoc, h]; simp

/-- No timer byte is held in sync, and none is the ICR. -/
theorem timerBytes_unsynced (x : TimerId) :
    inSync (timerLo x) = false ∧ inSync (timerHi x) = false ∧ timerLo x ≠ 0xD#4 ∧ timerHi x ≠ 0xD#4 := by
  cases x <;> decide

theorem inSync_timerCr (x : TimerId) : inSync (timerCr x) = true := by cases x <;> decide

theorem CiaInv.zero : CiaInv Cia.zero := ⟨.inl (read_zero 4 _), by simp [Cia.zero], fun _ _ => rfl⟩

/-! ### One register -/

/-- A synchronous register may hold any byte, the same in both views. -/
theorem CiaInv.storeBoth {c : Cia} {i : BitVec 4} (h : CiaInv c) (v : Byte) (hi : inSync i = true) :
    CiaInv (c.storeBoth i v) := by
  have hd : 0xD#4 ≠ i := by rintro rfl; cases hi
  refine ⟨?flags, ?mask, fun j hj => ?sync⟩
  case flags => rw [storeBoth_r, read_write_other _ _ _ _ hd]; exact h.flags
  case mask => rw [storeBoth_w, read_write_other _ _ _ _ hd]; exact h.mask
  case sync => rw [storeBoth_r, storeBoth_w, read_write, read_write, h.sync j hj]

/-- The read view of an unsynchronous register: any byte, but flag values in the ICR. -/
theorem CiaInv.setRead {c : Cia} {i : BitVec 4} {v : Byte} (h : CiaInv c) (hi : inSync i = false)
    (hv : i = 0xD#4 → IsIcrFlags v) : CiaInv (c.setRead i v) := by
  refine ⟨?flags, h.mask, fun j hj => ?sync⟩
  case flags =>
    rw [setRead_r, read_write]
    split
    · next hd => exact hv hd.symm
    · exact h.flags
  case sync =>
    have hji : j ≠ i := by rintro rfl; simp [hi] at hj
    rw [setRead_r, read_write_other _ _ _ _ hji]
    exact h.sync j hj

/-- The write view of an unsynchronous register: any byte, but none of the bits 7:5 in the ICR mask. -/
theorem CiaInv.setLatch {c : Cia} {i : BitVec 4} {v : Byte} (h : CiaInv c) (hi : inSync i = false)
    (hv : i = 0xD#4 → v &&& 0xE0#8 = 0x00#8) : CiaInv (c.setLatch i v) := by
  refine ⟨h.flags, ?mask, fun j hj => ?sync⟩
  case mask =>
    rw [setLatch_w, read_write]
    split
    · next hd => exact hv hd.symm
    · exact h.mask
  case sync =>
    have hji : j ≠ i := by rintro rfl; simp [hi] at hj
    rw [setLatch_w, read_write_other _ _ _ _ hji]
    exact h.sync j hj

theorem CiaInv.setCounterBytes {c : Cia} (h : CiaInv c) (x : TimerId) (lo hi : Byte) :
    CiaInv ((c.setRead (timerLo x) lo).setRead (timerHi x) hi) := by
  obtain ⟨hlo, hhi, hlod, hhid⟩ := timerBytes_unsynced x
  exact (h.setRead hlo (absurd · hlod)).setRead hhi (absurd · hhid)

theorem CiaInv.loadTimer {c : Cia} (h : CiaInv c) (x : TimerId) : CiaInv (loadTimer x c) := h.setCounterBytes x _ _

theorem CiaInv.setLatchLo {c : Cia} (h : CiaInv c) (x : TimerId) (v : Byte) : CiaInv (c.setLatch (timerLo x) v) := by
  obtain ⟨hlo, -, hlod, -⟩ := timerBytes_unsynced x
  exact h.setLatch hlo (absurd · hlod)

theorem CiaInv.setLatchHi {c : Cia} (h : CiaInv c) (x : TimerId) (v : Byte) : CiaInv (c.setLatch (timerHi x) v) := by
  obtain ⟨-, hhi, -, hhid⟩ := timerBytes_unsynced x
  exact h.setLatch hhi (absurd · hhid)

/-! ### The clock -/

theorem CiaInv.countDown {c : Cia} (h : CiaInv c) (x : TimerId) : CiaInv (countDown x c) := h.setCounterBytes x _ _

theorem CiaInv.underflowFlags {c : Cia} (h : CiaInv c) (x : TimerId) : CiaInv (underflowFlags x c) := by
  unfold Machine.underflowFlags
  split
  · exact h.setRead rfl (fun _ => IsIcrFlags.icrRaise h.flags x)
  · exact h

/-- Both views of a control register agree, so a stop stores one byte in both (40_timer_unit.md R174). -/
theorem CiaInv.stopTimer {c : Cia} (h : CiaInv c) (x : TimerId) : CiaInv (stopTimer x c) := by
  have hcr := inSync_timerCr x
  have : Machine.stopTimer x c = c.storeBoth (timerCr x) (c.r.read (timerCr x) &&& 0xFE#8) := by
    rw [Machine.stopTimer, ← h.sync _ hcr]; rfl
  exact this ▸ h.storeBoth _ hcr

theorem CiaInv.underflow {c : Cia} (h : CiaInv c) (x : TimerId) : CiaInv (underflow x c) := by
  unfold Machine.underflow
  split
  · exact (h.underflowFlags x).stopTimer x
  · exact (h.underflowFlags x).loadTimer x

theorem CiaInv.timerTick {c : Cia} (h : CiaInv c) (x : TimerId) : CiaInv (timerTick x c) := by
  unfold Machine.timerTick
  split
  · split
    · exact (h.countDown x).underflow x
    · exact h.countDown x
  · exact h

theorem CiaInv.ciaTick {c : Cia} (h : CiaInv c) : CiaInv (ciaTick c) := (h.timerTick .a).timerTick .b

/-! ### The register operations -/

theorem CiaInv.timerHighStore {c : Cia} (h : CiaInv c) (x : TimerId) (d : Byte) : CiaInv (timerHighStore x d c) := by
  unfold Machine.timerHighStore
  split
  · exact h.setLatchHi x d
  · exact (h.setLatchHi x d).loadTimer x

theorem CiaInv.controlStore {c : Cia} (h : CiaInv c) (x : TimerId) (d : Byte) : CiaInv (controlStore x d c) := by
  unfold Machine.controlStore
  split
  · exact (h.storeBoth d (inSync_timerCr x)).loadTimer x
  · exact h.storeBoth d (inSync_timerCr x)

/-- An operation on CIA k completes, changes that CIA and the byte driven alone, and keeps the CIA's invariant. -/
theorem runCia_keeps_ciaInv (op : CiaOp) (k : CiaId) (s : State) (h : CiaInv (s.cia k)) :
    ∃ c d, runCia op k s = .next (ciaResult k c d s) ∧ CiaInv c := by
  have stored {c : Cia} {t : Result} (ht : t = .next (s.setCia k c)) (hc : CiaInv c) :
      ∃ c d, t = .next (ciaResult k c d s) ∧ CiaInv c :=
    ⟨c, s.out.dout, by rw [ht, ciaResult_setCia], hc⟩
  cases op
  case rdPra1 | rdPra2 | rdPrb1 | rdPrb2 | rdDdra | rdDdrb | rdTalo | rdTahi | rdTblo | rdTbhi | rdTod10 | rdTodsec | rdTodmin
    | rdTodhr | rdSdr | rdCra | rdCrb =>
    exact ⟨s.cia k, some _, congrArg _ (ciaResult_answer _ k s).symm, h⟩
  case rdIcr => exact ⟨_, some _, congrArg _ (ciaResult_both _ k _ s).symm, h.setRead rfl (fun _ => .inl rfl)⟩
  case wrPra | wrPrb | wrDdra | wrDdrb | wrTod10 | wrTodsec | wrTodmin | wrTodhr | wrSdr => exact stored rfl (h.storeBoth _ rfl)
  case wrTalo => exact stored rfl (h.setLatchLo .a _)
  case wrTblo => exact stored rfl (h.setLatchLo .b _)
  case wrTahi => exact stored rfl (h.timerHighStore .a _)
  case wrTbhi => exact stored rfl (h.timerHighStore .b _)
  case wrIcr => exact stored rfl (h.setLatch rfl (fun _ => icrMaskWrite_high _ h.mask))
  case wrCra => exact stored rfl (h.controlStore .a _)
  case wrCrb => exact stored rfl (h.controlStore .b _)

/-- A register access of CIA k completes, changes that CIA and the byte driven alone, and keeps the CIA's invariant. -/
theorem ciaAccess_keeps_ciaInv (k : CiaId) (rw : Bool) (a : Addr) (s : State) (h : CiaInv (s.cia k)) :
    ∃ c d, ciaAccess k rw a s = .next (ciaResult k c d s) ∧ CiaInv c := by
  obtain ⟨op, hop⟩ := Option.isSome_iff_exists.mp (lookup_ciaRows_isSome (ciaWord k rw (ciaIndex a)))
  simpa only [ciaAccess, hop] using runCia_keeps_ciaInv op k s h

end Sys2Proof.Machine
end

section
/-! PROOFS. What holds of the VIC in every run: the rules for a write of one register of either set, then the tick and every
register operation whose index its row admits (10_state.md R57, R59, R60, R64, R68, R80, R81). -/

namespace Sys2Proof.Machine

/-- The interrupt flag values of a run: the raster bit with the aggregate, or neither (95_test_vectors.md section 3). -/
def IsVicFlag (v : Byte) : Prop := v = 0x00#8 ∨ v = 0x81#8

theorem IsVicFlag.vicFlagRaise {v : Byte} (h : IsVicFlag v) : IsVicFlag (vicFlagRaise v) := by
  rcases h with rfl | rfl <;> exact .inr rfl

theorem IsVicFlag.vicFlagWrite {v : Byte} (h : IsVicFlag v) (d : Byte) : IsVicFlag (vicFlagWrite d v) := by
  unfold IsVicFlag at *
  rcases h with rfl | rfl <;> revert d <;> decide

/-- A register of the read-visible set that holds any byte written to it: all but $11, $12, $19 and the indices without
a register. -/
def plainVicIndex (i : BitVec 6) : Bool := i ≠ 0x11#6 ∧ i ≠ 0x12#6 ∧ i ≠ 0x19#6 ∧ i.toNat < 0x2F

/-- The cycle after a tick, for a cycle inside the line (43_vic_raster_render.md R300). -/
theorem vicTick_cycle {p : VideoParams} {v : Vic} (h : v.cycle < p.cyclesPerLine) :
    (vicTick p v).cycle = (v.cycle + 1) % p.cyclesPerLine := by
  rcases Nat.lt_or_ge (v.cycle + 1) p.cyclesPerLine with hw | he
  · rw [vicTick_within hw, Nat.mod_eq_of_lt hw]
  · rw [vicTick_lineEnd he, compareRaster_cycle, show v.cycle + 1 = p.cyclesPerLine by omega, Nat.mod_self]
    rfl

theorem VicInv.zero {p : VideoParams} (hc : 0 < p.cyclesPerLine) (hl : 0 < p.totalLines) : VicInv p Vic.zero where
  flag := .inl (read_zero 6 _)
  control := by simp [Vic.zero]
  unused i _ := read_zero 6 i
  latch i _ _ := read_zero 6 i
  cycle := hc
  line := hl

variable {p : VideoParams} {v : Vic}

/-! ### One register -/

/-- A register in use of the read-visible set: any byte, but a flag value in $19 and bit 7 clear in $11. -/
theorem VicInv.writeReg {i : BitVec 6} {d : Byte} (h : VicInv p v) (hi : i ≠ 0x12#6 ∧ i.toNat < 0x2F)
    (hflag : i = 0x19#6 → IsVicFlag d) (hcontrol : i = 0x11#6 → d.getLsbD 7 = false) :
    VicInv p { v with r := v.r.write i d } := by
  refine { h with flag := ?flag, control := ?control, unused := fun j hj => ?unused }
  case flag =>
    rw [read_write]
    split
    · next hi19 => exact hflag hi19.symm
    · exact h.flag
  case control =>
    rw [read_write]
    split
    · next hi11 => exact hcontrol hi11.symm
    · exact h.control
  case unused =>
    have hji : j ≠ i := by
      rintro rfl
      exact hj.elim hi.1 (Nat.not_le_of_lt hi.2)
    rw [read_write_other _ _ _ _ hji]
    exact h.unused j hj

theorem VicInv.writePlain {i : BitVec 6} (h : VicInv p v) (hi : plainVicIndex i = true) (d : Byte) :
    VicInv p { v with r := v.r.write i d } := by
  simp only [plainVicIndex, decide_eq_true_eq] at hi
  obtain ⟨h11, h12, h19, hlt⟩ := hi
  exact h.writeReg ⟨h12, hlt⟩ (absurd · h19) (absurd · h11)

theorem VicInv.writeFlag {d : Byte} (h : VicInv p v) (hd : IsVicFlag d) :
    VicInv p { v with r := v.r.write 0x19#6 d } :=
  h.writeReg (by decide) (fun _ => hd) (absurd · (by decide))

theorem VicInv.writeControl {d : Byte} (h : VicInv p v) (hd : d.getLsbD 7 = false) :
    VicInv p { v with r := v.r.write 0x11#6 d } :=
  h.writeReg (by decide) (absurd · (by decide)) (fun _ => hd)

theorem VicInv.writeLatch {i : BitVec 6} (h : VicInv p v) (hi : i = 0x11#6 ∨ i = 0x12#6) (d : Byte) :
    VicInv p { v with w := v.w.write i d } := by
  refine { h with latch := fun j h11 h12 => ?_ }
  have hji : j ≠ i := by rintro rfl; exact hi.elim h11 h12
  rw [read_write_other _ _ _ _ hji]
  exact h.latch j h11 h12

/-! ### The clock -/

theorem VicInv.advanceLine (h : VicInv p v) (hl : p.totalLines ≤ 512) : VicInv p (advanceLine p v) := by
  have hpos : 0 < p.totalLines := Nat.zero_lt_of_lt h.line
  refine { h with cycle := Nat.zero_lt_of_lt h.cycle, line := ?_ }
  rw [advanceLine_line v hpos hl]
  exact Nat.mod_lt _ hpos

theorem VicInv.compareRaster (h : VicInv p v) : VicInv p (compareRaster v) := by
  unfold Machine.compareRaster
  split
  · exact h.writeFlag (IsVicFlag.vicFlagRaise h.flag)
  · exact h

theorem VicInv.vicTick (h : VicInv p v) (hl : p.totalLines ≤ 512) : VicInv p (vicTick p v) := by
  rcases Nat.lt_or_ge (v.cycle + 1) p.cyclesPerLine with hw | he
  · rw [vicTick_within hw]
    exact { h with cycle := hw }
  · rw [vicTick_lineEnd he]
    exact (h.advanceLine hl).compareRaster

/-! ### The register operations -/

/-- The row a select word selects admits the word's index as its operand (30_encoding.md R156). -/
theorem lookup_vicRows_wellFormed : ∀ (rw : Bool) (i : BitVec 6),
    (lookupRow vicRows (vicWord rw i)).all (fun op => (op.instr i).wellFormed) = true := by
  decide

/-- A group that spares $11, $12 and $19 and ends before $2F holds plain registers only (30_encoding.md R156). -/
theorem plainVicIndex_of_inGroup {lo hi : Nat} {i : BitVec 6} (h : inGroup lo hi i = true)
    (hgroup : hi < 0x11 ∨ (0x12 < lo ∧ hi < 0x19) ∨ (0x19 < lo ∧ hi < 0x2F)) : plainVicIndex i = true := by
  simp only [inGroup, Bool.and_eq_true, decide_eq_true_eq] at h
  simp only [plainVicIndex, decide_eq_true_eq]
  refine ⟨?_, ?_, ?_, by omega⟩ <;> rintro rfl <;> simp only [BitVec.toNat_ofNat] at h <;> omega

/-- An operation on the VIC, on an index its row admits, completes, changes the two register sets and the byte driven
alone, and keeps the VIC's invariant. -/
theorem runVic_keeps_vicInv (op : VicOp) (i : BitVec 6) (s : State) (hw : (op.instr i).wellFormed = true)
    (h : VicInv p s.vic) :
    ∃ r w d, runVic op i s = .next { s with vic := { s.vic with r := r, w := w }, out := { s.out with dout := d } } ∧
      VicInv p { s.vic with r := r, w := w } := by
  cases op
  case rdSprpos | rdCr1 | rdRaster | rdLp | rdSpren | rdCr2 | rdSpryex | rdMemptr | rdIrqmask | rdSprmisc | rdColl | rdBorder
    | rdBg | rdSprcol | rdUnused =>
    exact ⟨s.vic.r, s.vic.w, some _, rfl, h⟩
  case rdIrqflag => exact ⟨_, s.vic.w, some _, rfl, h.writeFlag (.inl rfl)⟩
  case wrSprpos | wrLp | wrSprmisc | wrColl | wrBg | wrSprcol =>
    exact ⟨_, s.vic.w, s.out.dout, rfl, h.writePlain (plainVicIndex_of_inGroup hw (by decide)) _⟩
  case wrSpren | wrCr2 | wrSpryex | wrMemptr | wrIrqmask | wrBorder =>
    exact ⟨_, s.vic.w, s.out.dout, rfl, h.writePlain (by decide) _⟩
  case wrCr1 => exact ⟨_, _, s.out.dout, rfl, (h.writeLatch (.inl rfl) s.inp.d).writeControl (by simp)⟩
  case wrRaster => exact ⟨s.vic.r, _, s.out.dout, rfl, h.writeLatch (.inr rfl) _⟩
  case wrIrqflag => exact ⟨_, s.vic.w, s.out.dout, rfl, h.writeFlag (IsVicFlag.vicFlagWrite h.flag _)⟩
  case wrUnused => exact ⟨s.vic.r, s.vic.w, s.out.dout, rfl, h⟩

/-- A register access of the VIC completes, changes the two register sets and the byte driven alone, and keeps the VIC's
invariant. -/
theorem vicAccess_keeps_vicInv (rw : Bool) (a : Addr) (s : State) (h : VicInv p s.vic) :
    ∃ r w d, vicAccess rw a s = .next { s with vic := { s.vic with r := r, w := w }, out := { s.out with dout := d } } ∧
      VicInv p { s.vic with r := r, w := w } := by
  obtain ⟨op, hop⟩ := Option.isSome_iff_exists.mp (lookup_vicRows_isSome (vicWord rw (vicIndexOf a)))
  have hw := lookup_vicRows_wellFormed rw (vicIndexOf a)
  rw [hop, Option.all_some] at hw
  simpa only [vicAccess, hop] using runVic_keeps_vicInv op (vicIndexOf a) s hw h

end Sys2Proof.Machine
end

section
/-! PROOFS. The invariant of the machine: RESET establishes it; a routed cycle keeps the part of it an access can touch; a CLK and a
step keep the whole (44_bus_arbiter.md R350, 70_reset_and_hazards.md R450, R452). -/

namespace Sys2Proof.Machine

/-! ### RESET -/

/-- After RESET the invariant holds, whatever held before, if RAM is canonical. -/
theorem machineInv_of_execReset {s t : State} (hram : s.ram.wf ramSize = true) (h : execReset s = .next t) :
    MachineInv t := by
  obtain rfl := Host.Outcome.next.inj h
  have hlines : 0 < Config.totalLines := Nat.zero_lt_of_lt totalLines_bounds.1
  exact {
    ram := hram
    fb := wf_nil _
    cia1 := .zero
    cia2 := .zero
    vic := .zero (Nat.succ_pos _) hlines
    handshake := Nat.le_refl _
    started := rfl
    irq := by simp [Outputs.idle, irqLine, Cia.zero, Vic.zero] }

/-- Settles O57: the state after reset is what RESET makes of a construction with empty RAM. -/
theorem resetMeetsTheInvariant : Obligations.ResetMeetsTheInvariant :=
  machineInv_of_execReset (s := State.construct []) (wf_nil _) rfl

@[simp] theorem timerRunning_zero (x : TimerId) : timerRunning x Cia.zero = false := by simp [timerRunning, Cia.zero]

@[simp] theorem timerCounter_zero (x : TimerId) : timerCounter x Cia.zero = 0#16 := by simp [timerCounter, Cia.zero, pair]

@[simp] theorem timerLatch_zero (x : TimerId) : timerLatch x Cia.zero = 0#16 := by simp [timerLatch, Cia.zero, pair]

/-- Settles O17: RESET leaves both CIAs `Cia.zero` and the VIC `Vic.zero`, whose registers all read $00. -/
theorem resetLeavesTheResetValues : Obligations.ResetLeavesTheResetValues := by
  intro s
  refine ⟨_, rfl, fun k i => ?registers, fun i => ⟨read_zero 6 i, read_zero 6 i⟩, rfl, rfl, fun _ => rfl, rfl, rfl, rfl, rfl,
    rfl, rfl, fun k x => ?timers⟩
  case registers => cases k <;> exact ⟨read_zero 4 i, read_zero 4 i⟩
  case timers => cases k <;> exact ⟨timerRunning_zero x, timerCounter_zero x, timerLatch_zero x⟩

/-! ### A routed cycle -/

/-- The part of the machine's invariant that an access can touch; `RoutedFrame` gives the rest. -/
def AccessInv (s : State) : Prop := s.ram.wf ramSize = true ∧ (∀ k, CiaInv (s.cia k)) ∧ VicInv videoParams s.vic

theorem MachineInv.cia {s : State} (h : MachineInv s) : ∀ k, CiaInv (s.cia k)
  | .cia1 => h.cia1
  | .cia2 => h.cia2

@[simp] theorem accessInv_openCycle (s : State) : AccessInv (openCycle s) ↔ AccessInv s := by simp [AccessInv]

@[simp] theorem accessInv_answer (v : Byte) (s : State) : AccessInv (answer v s) ↔ AccessInv s := by simp [AccessInv]

@[simp] theorem accessInv_deliverSid (a : Addr) (s : State) : AccessInv (deliverSid a s) ↔ AccessInv s := by simp [AccessInv]

/-- Every bus address is one of RAM's. -/
theorem AccessInv.storeRam {s : State} (h : AccessInv s) (a : Addr) : AccessInv (storeRam a s) := by
  obtain ⟨hram, hcia, hvic⟩ := h
  exact ⟨wf_write _ hram a.isLt, by simpa using hcia, hvic⟩

theorem AccessInv.ciaResult {s : State} (h : AccessInv s) (k : CiaId) {c : Cia} (d : Option Byte) (hc : CiaInv c) :
    AccessInv (ciaResult k c d s) := by
  obtain ⟨hram, hcia, hvic⟩ := h
  have h1 := hcia .cia1
  have h2 := hcia .cia2
  cases k
  case cia1 => exact ⟨hram, fun | .cia1 => hc | .cia2 => h2, hvic⟩
  case cia2 => exact ⟨hram, fun | .cia1 => h1 | .cia2 => hc, hvic⟩

theorem ciaAccess_keeps_accessInv (k : CiaId) (rw : Bool) (a : Addr) {s : State} (h : AccessInv s) :
    ∃ t, ciaAccess k rw a s = .next t ∧ AccessInv t := by
  have ⟨_, hcia, _⟩ := h
  obtain ⟨c, d, ht, hc⟩ := ciaAccess_keeps_ciaInv k rw a s (hcia k)
  exact ⟨_, ht, h.ciaResult k d hc⟩

theorem vicAccess_keeps_accessInv (rw : Bool) (a : Addr) {s : State} (h : AccessInv s) :
    ∃ t, vicAccess rw a s = .next t ∧ AccessInv t := by
  obtain ⟨hram, hcia, hvic⟩ := h
  obtain ⟨r, w, d, ht, hv⟩ := vicAccess_keeps_vicInv rw a s hvic
  exact ⟨_, ht, hram, hcia, hv⟩

theorem runBus_keeps_accessInv (op : BusOp) (m : BitVec 3) (a : Addr) {s : State} (h : AccessInv s) :
    ∃ t, runBus op m a s = .next t ∧ AccessInv t := by
  have hr : AccessInv (openCycle s) := by simpa using h
  have hw := hr.storeRam a
  cases op
  case rdRam | rdColor | rdIoexp | rdSid | rdChar | rdBasic | rdKernal => exact ⟨_, rfl, by simpa using h⟩
  case rdVic => exact vicAccess_keeps_accessInv true a hr
  case rdCia1 => exact ciaAccess_keeps_accessInv .cia1 true a hr
  case rdCia2 => exact ciaAccess_keeps_accessInv .cia2 true a hr
  case wrRam | wrColor | wrIoexp => exact ⟨_, rfl, hw⟩
  case wrVic => exact vicAccess_keeps_accessInv false a hw
  case wrCia1 => exact ciaAccess_keeps_accessInv .cia1 false a hw
  case wrCia2 => exact ciaAccess_keeps_accessInv .cia2 false a hw
  case wrSid => exact ⟨_, rfl, (accessInv_deliverSid a _).mpr hw⟩

theorem route_keeps_accessInv {w : BitVec 20} {s t : State} (h : AccessInv s) (ht : route w s = .next t) : AccessInv t := by
  obtain ⟨op, hop⟩ := Option.isSome_iff_exists.mp (lookup_busRows_isSome w)
  obtain ⟨u, hu, hi⟩ := runBus_keeps_accessInv op (busMode w) (busAddr w) h
  simp only [route, hop, hu, Host.Outcome.next.injEq] at ht
  exact ht ▸ hi

/-! ### CLK -/

theorem execClk_handshake {s : State} (he : s.everReset = true) (hr : 0 < s.rstLeft) :
    execClk s = .next (handshakeClk s) := by
  simp [execClk, he, hr]

/-- Settles O10: a handshake CLK is `handshakeClk`; a normal one keeps `rstLeft`, and the cycle its VIC tick has counted. -/
theorem handshakeClkIgnoresTheBus : Obligations.HandshakeClkIgnoresTheBus := by
  refine ⟨fun s he hr => ?handshake, fun s ⟨he, hr⟩ => ?normal⟩
  case handshake => exact ⟨_, execClk_handshake he hr, rfl, rfl, rfl, rfl, rfl, rfl, rfl⟩
  case normal =>
    obtain ⟨u, -, hframe, ht⟩ := execClk_normal he hr
    refine ⟨_, ht, rfl, by simp [hframe.rstLeft, hr], fun hc => ?_⟩
    have hcycle : s.vic.cycle < videoParams.cyclesPerLine := by rw [hc]; exact Nat.succ_pos _
    rw [emit_vic, hframe.cycle, tickDevices_vic, vicTick_cycle hcycle, hc]
    rfl

theorem MachineInv.accessInv_tickDevices {s : State} (h : MachineInv s) : AccessInv (tickDevices s) :=
  ⟨h.ram, fun k => tickDevices_cia s k ▸ (h.cia k).ciaTick, h.vic.vicTick totalLines_bounds.2⟩

theorem MachineInv.handshakeClk {s : State} (h : MachineInv s) : MachineInv (handshakeClk s) :=
  { h with handshake := Nat.le_trans (Nat.sub_le _ _) h.handshake, irq := rfl }

/-- The outputs of a normal CLK, given in the state u that its access leaves. -/
theorem MachineInv.emit_routed {s u : State} (h : MachineInv s) (hu : route (cycleWord s) (tickDevices s) = .next u)
    (hframe : RoutedFrame (tickDevices s) u) (nmi res : Bool) : MachineInv (emit nmi res u) := by
  obtain ⟨hram, hcia, hvic⟩ := route_keeps_accessInv h.accessInv_tickDevices hu
  exact {
    ram := hram
    fb := by rw [emit_fb, hframe.fb]; exact wf_vicClk_fb h.fb
    cia1 := hcia .cia1
    cia2 := hcia .cia2
    vic := hvic
    handshake := by rw [emit_rstLeft, hframe.rstLeft]; exact h.handshake
    started := by rw [emit_everReset, hframe.everReset]; exact h.started
    irq := rfl }

theorem execClk_keeps_machineInv {s : State} (h : MachineInv s) : ∃ t, execClk s = .next t ∧ MachineInv t := by
  rcases Nat.eq_zero_or_pos s.rstLeft with hr | hr
  · obtain ⟨u, hu, hframe, ht⟩ := execClk_normal h.started hr
    exact ⟨_, ht, h.emit_routed hu hframe _ _⟩
  · exact ⟨_, execClk_handshake h.started hr, h.handshakeClk⟩

/-! ### A step -/

theorem MachineInv.takeCall {s : State} (h : MachineInv s) : MachineInv (takeCall s) := by
  unfold Machine.takeCall
  split <;> exact { h with }

theorem MachineInv.latchInputs {s : State} (h : MachineInv s) (c : HostCall) : MachineInv (latchInputs c s) := by
  cases c <;> exact { h with }

/-- Settles O58: a step is a CLK or a RESET on the state with its call taken and its inputs presented, and each keeps the
invariant. -/
theorem stepKeepsTheInvariant : Obligations.StepKeepsTheInvariant := by
  intro s h
  have hcalled := h.takeCall.latchInputs (nextCall s)
  rw [step_eq_exec]
  cases hc : nextCall s with
  | clk inp => exact execClk_keeps_machineInv (hc ▸ hcalled)
  | reset => exact ⟨_, rfl, machineInv_of_execReset (hc ▸ hcalled).ram rfl⟩

end Sys2Proof.Machine
end

section
/-! PROOFS. The row a word selects: in a table whose rows are pairwise disjoint it is the one row that matches, so the BUS rows are
the read decode and the write decode (20_memory.md R110-R112, 30_encoding.md R141). -/

namespace Sys2Proof.Machine

variable {n : Nat} {α : Type} {rows : List (Row n α)} {w : BitVec n}

/-- No word matches both rows: they fix some bit that both look at to different values (30_encoding.md R141). -/
def RowsDisjoint (r q : Row n α) : Prop := r.val &&& q.mask ≠ q.val &&& r.mask

theorem RowsDisjoint.not_both {r q : Row n α} (h : RowsDisjoint r q) (hr : w &&& r.mask = r.val)
    (hq : w &&& q.mask = q.val) : False := by
  refine h ?_
  rw [← hr, ← hq, BitVec.and_assoc, BitVec.and_assoc, BitVec.and_comm r.mask]

/-- The row that is looked up is a row of the table, and it matches. -/
theorem exists_row_of_lookupRow {op : α} (h : lookupRow rows w = some op) :
    ∃ r ∈ rows, w &&& r.mask = r.val ∧ r.op = op := by
  induction rows with
  | nil => cases h
  | cons q rows ih =>
    simp only [lookupRow] at h
    split at h
    · next hq => exact ⟨q, List.mem_cons_self .., hq, Option.some.inj h⟩
    · obtain ⟨r, hr, hm⟩ := ih h
      exact ⟨r, List.mem_cons_of_mem _ hr, hm⟩

/-- In a table of disjoint rows a row that matches is the one looked up, wherever it stands. -/
theorem lookupRow_of_mem {r : Row n α} (hd : rows.Pairwise RowsDisjoint) (hr : r ∈ rows) (hm : w &&& r.mask = r.val) :
    lookupRow rows w = some r.op := by
  induction rows with
  | nil => cases hr
  | cons q rows ih =>
    obtain ⟨hq, hrest⟩ := List.pairwise_cons.mp hd
    simp only [lookupRow]
    rcases List.mem_cons.mp hr with rfl | hr
    · rw [if_pos hm]
    · rw [if_neg fun hqm => (hq r hr).not_both hqm hm]
      exact ih hrest hr

theorem busRows_disjoint : busRows.Pairwise RowsDisjoint := by
  unfold RowsDisjoint
  decide

theorem lookupRow_of_someRow {w : BitVec 20} {op : BusOp} (h : someRow busRows w op = true) :
    lookupRow busRows w = some op := by
  simp only [someRow, List.any_eq_true, Bool.and_eq_true, decide_eq_true_eq] at h
  obtain ⟨r, hr, hm, rfl⟩ := h
  exact lookupRow_of_mem busRows_disjoint hr hm

/-- The gap at the end of the read decode is reached by no address (20_memory.md R112). -/
theorem exists_readTarget (m : BitVec 3) (a : Addr) : ∃ t, readTarget m a = some t := by
  rw [← Option.ne_none_iff_exists']
  intro hgap
  simp only [readTarget, ite_eq_iff, reduceCtorEq, and_false, false_or, or_false, and_true, Bool.or_eq_true, Bool.and_eq_true,
    decide_eq_true_eq] at hgap
  omega

theorem decodeWord_bus {w : BitVec 20} {op : BusOp} (h : lookupRow busRows w = some op) :
    decodeWord (.bus w) = .ok (op.instr (busMode w) (busAddr w)) := by
  simp only [decodeWord, h]

theorem readOp_instr (t : Target) (m : BitVec 3) (a : Addr) : (Laws.readOp t).instr m a = readInstr t m a := by
  cases t <;> rfl

theorem writeOp_instr (t : Target) (m : BitVec 3) (a : Addr) : (Laws.writeOp t).instr m a = writeInstr t m a := by
  cases t <;> rfl

/-- A BUS word in which some row of op matches decodes to op on the word's own mode and address. -/
theorem decodeWord_busWord {rw : Bool} {m : BitVec 3} {a : Addr} {op : BusOp}
    (h : someRow busRows (busWord rw m a) op = true) : decodeWord (.bus (busWord rw m a)) = .ok (op.instr m a) := by
  rw [decodeWord_bus (lookupRow_of_someRow h), busMode_busWord, busAddr_busWord]

/-- Settles O5: a row of the target's operation matches the word, and no row of another operation does. -/
theorem busDecodeFollowsTargets : Obligations.BusDecodeFollowsTargets := by
  intro m a
  obtain ⟨t, ht⟩ := exists_readTarget m a
  obtain ⟨hread, hwrite⟩ := Laws.someRow_of_target m a t ht
  refine ⟨t, ht, ?read, ?write⟩
  case read => rw [decodeWord_busWord hread, readOp_instr]
  case write => rw [decodeWord_busWord hwrite, writeOp_instr]

end Sys2Proof.Machine
end

section
/-! PROOFS. What a CLK makes of the visibility flags and of RAM: the flags are those of the mode it found, and RAM has the byte of a
write cycle and is else as it was (20_memory.md R103, R104, R111, 44_bus_arbiter.md R352). -/

namespace Sys2Proof.Machine

/-! ### Visibility -/

theorem visibilityOf_modeOf (s : State) :
    visibilityOf (modeOf s) =
      { basic := (s.ram.read 1).getLsbD 0 && (s.ram.read 1).getLsbD 1
        kernal := (s.ram.read 1).getLsbD 1
        io := (s.ram.read 1).getLsbD 2 && ((s.ram.read 1).getLsbD 0 || (s.ram.read 1).getLsbD 1)
        char := !(s.ram.read 1).getLsbD 2 && ((s.ram.read 1).getLsbD 0 || (s.ram.read 1).getLsbD 1) } := by
  simp [visibilityOf, modeOf]

/-- Settles O6: neither the access nor the outputs touch the flags that the ticks end with, and no tick writes the mode port. -/
theorem visibilityFollowsMode : Obligations.VisibilityFollowsMode := by
  rintro s ⟨he, hr⟩
  obtain ⟨u, -, hframe, ht⟩ := execClk_normal he hr
  have hvis : (emit (ciaSignal s.cia2) false u).vis = visibilityOf (modeOf s) := by
    rw [emit_vis, hframe.vis, tickDevices_vis]
  rw [visibilityOf_modeOf] at hvis
  refine ⟨_, ht, ?_⟩
  rw [hvis]
  exact ⟨rfl, rfl, rfl, rfl⟩

/-! ### RAM -/

/-- Every BUS row looks at the direction bit, and the rows of the writes are those with it 0 (30_encoding.md R140, R153, R154). -/
theorem busRows_direction : ∀ r ∈ busRows, r.mask.getLsbD 19 = true ∧ busOpWrites r.op = !r.val.getLsbD 19 := by decide

theorem busOpWrites_of_lookupRow {w : BitVec 20} {op : BusOp} (h : lookupRow busRows w = some op) :
    busOpWrites op = !busRead w := by
  obtain ⟨r, hr, hm, rfl⟩ := exists_row_of_lookupRow h
  obtain ⟨hmask, hop⟩ := busRows_direction r hr
  rw [hop, ← hm, BitVec.getLsbD_and, hmask, Bool.and_true, busRead]

/-- RAM after a routed cycle: a write stores D whatever device is at its address, a read stores nothing. -/
theorem route_ram {w : BitVec 20} {s t : State} (h : route w s = .next t) :
    t.ram = if busRead w then s.ram else s.ram.write (busAddr w).toNat s.inp.d := by
  obtain ⟨op, hop⟩ := Option.isSome_iff_exists.mp (lookup_busRows_isSome w)
  obtain ⟨u, hu, -, hram⟩ := runBus_next op (busMode w) (busAddr w) s
  simp only [route, hop, hu, Host.Outcome.next.injEq] at h
  rw [← h, hram, busOpWrites_of_lookupRow hop]
  cases busRead w <;> rfl

theorem execClk_ram_normal {s t : State} (hn : Normal s) (h : execClk s = .next t) :
    t.ram = if s.inp.rw then s.ram else s.ram.write s.inp.a.toNat s.inp.d := by
  obtain ⟨he, hr⟩ := hn
  obtain ⟨u, hu, -, ht⟩ := execClk_normal he hr
  obtain rfl := Host.Outcome.next.inj (ht.symm.trans h)
  simpa [cycleWord] using route_ram hu

theorem execClk_ram_of_not_normal {s t : State} (hn : ¬Normal s) (h : execClk s = .next t) : t.ram = s.ram := by
  obtain ⟨he, ⟨-, rfl⟩ | ⟨hr, -⟩⟩ := execClk_cases h
  · rfl
  · exact absurd ⟨he, hr⟩ hn

/-- Settles O15: RAM after a CLK is that of a normal CLK, by its direction, or of a handshake CLK; RESET keeps it. -/
theorem onlyBusWritesChangeRam : Obligations.OnlyBusWritesChangeRam := by
  refine ⟨fun s t hwf h => ⟨fun hn hrw => ?written, fun hno => ?unwritten⟩, fun s t h => ?reset⟩
  case written =>
    have hram : t.ram = s.ram.write s.inp.a.toNat s.inp.d := by simpa [hrw] using execClk_ram_normal hn h
    rw [hram]
    exact ⟨read_write_eq _ hwf, fun b hb => read_write_ne _ hb⟩
  case unwritten =>
    by_cases hn : Normal s
    · have hrw : s.inp.rw = true := by simpa [hn] using hno
      simpa [hrw] using execClk_ram_normal hn h
    · exact execClk_ram_of_not_normal hn h
  case reset =>
    obtain rfl := Host.Outcome.next.inj h
    rfl

end Sys2Proof.Machine
end

section
/-! PROOFS. The live inputs reach only the data bus: a state with other keys, joystick and SID answer, and another byte driven, goes
through each stage of a CLK as the state itself does (20_memory.md R119, 41_cia_registers.md R191, R193, 44_bus_arbiter.md R364). -/

namespace Sys2Proof.Machine

/-- The inputs a CLK samples beside the bus tuple (00_scope.md R20). -/
structure LiveInputs where
  keys : List (Byte × Byte)
  joy : Option Joystick
  sidRead : Byte

/-- The state with other live inputs, and with d as the byte driven. -/
def withLive (l : LiveInputs) (d : Option Byte) (s : State) : State :=
  { s with
    inp := { s.inp with keys := l.keys, joy := l.joy, sidRead := l.sidRead }
    out := { s.out with dout := d } }

/-- The operation completes, and other live inputs change nothing in what it leaves but the byte driven. -/
def LiveOnlyDrives (f : State → Result) : Prop :=
  ∀ l d s, ∃ t d', f s = .next t ∧ f (withLive l d s) = .next (withLive l d' t)

section Commute
variable (l : LiveInputs) (d : Option Byte) (s : State)

theorem tickDevices_withLive : tickDevices (withLive l d s) = withLive l d (tickDevices s) := rfl

theorem cycleWord_withLive : cycleWord (withLive l d s) = cycleWord s := rfl

theorem openCycle_withLive : openCycle (withLive l d s) = withLive l none (openCycle s) := rfl

theorem storeRam_withLive (a : Addr) : storeRam a (withLive l d s) = withLive l d (storeRam a s) := rfl

theorem emit_withLive (nmi res : Bool) : emit nmi res (withLive l d s) = withLive l d (emit nmi res s) := rfl

theorem handshakeClk_withLive : handshakeClk (withLive l d s) = withLive l none (handshakeClk s) := rfl

theorem answer_withLive (v v' : Byte) : answer v' (withLive l d s) = withLive l (some v') (answer v s) := rfl

theorem cia_withLive (k : CiaId) : (withLive l d s).cia k = s.cia k := by cases k <;> rfl

theorem inp_d_withLive : (withLive l d s).inp.d = s.inp.d := rfl

theorem setCia_withLive (k : CiaId) (c : Cia) : (withLive l d s).setCia k c = withLive l d (s.setCia k c) := by
  cases k <;> rfl

end Commute

theorem liveOnlyDrives_answer (v : State → Byte) : LiveOnlyDrives (fun s => .next (answer (v s) s)) :=
  fun l d s => ⟨_, some _, rfl, congrArg _ (answer_withLive l d s (v s) _)⟩

/-- What a write of D makes of a CIA is independent of the live inputs. -/
theorem liveOnlyDrives_setCia (k : CiaId) (c : Byte → Cia → Cia) :
    LiveOnlyDrives (fun s => .next (s.setCia k (c s.inp.d (s.cia k)))) :=
  fun l d s => ⟨_, d, rfl, by simp only [cia_withLive, inp_d_withLive, setCia_withLive]⟩

theorem liveOnlyDrives_runCia (op : CiaOp) (k : CiaId) : LiveOnlyDrives (runCia op k) := by
  cases op
  case rdPra1 | rdPra2 | rdPrb1 | rdPrb2 | rdDdra | rdDdrb | rdTalo | rdTahi | rdTblo | rdTbhi | rdTod10 | rdTodsec | rdTodmin
    | rdTodhr | rdSdr | rdCra | rdCrb => exact liveOnlyDrives_answer _
  case rdIcr =>
    intro l d s
    refine ⟨_, some ((s.cia k).r.read 0xD#4), rfl, ?_⟩
    simp only [runCia, execCiaRdIcr, cia_withLive, setCia_withLive, answer_withLive l d _ ((s.cia k).r.read 0xD#4)]
  case wrPra | wrPrb | wrDdra | wrDdrb | wrTod10 | wrTodsec | wrTodmin | wrTodhr | wrSdr =>
    exact liveOnlyDrives_setCia k fun v c => c.storeBoth _ v
  case wrTalo | wrTblo => exact liveOnlyDrives_setCia k fun v c => c.setLatch _ v
  case wrTahi | wrTbhi => exact liveOnlyDrives_setCia k (timerHighStore _)
  case wrIcr => exact liveOnlyDrives_setCia k fun v c => c.setLatch 0xD#4 (icrMaskWrite v (c.w.read 0xD#4))
  case wrCra | wrCrb => exact liveOnlyDrives_setCia k (controlStore _)

theorem liveOnlyDrives_ciaAccess (k : CiaId) (rw : Bool) (a : Addr) : LiveOnlyDrives (ciaAccess k rw a) := by
  intro l d s
  obtain ⟨op, hop⟩ := Option.isSome_iff_exists.mp (lookup_ciaRows_isSome (ciaWord k rw (ciaIndex a)))
  simpa only [ciaAccess, hop] using liveOnlyDrives_runCia op k l d s

/-- No VIC operation reads a live input: a read drives the same byte, a write drives none. -/
theorem liveOnlyDrives_runVic (op : VicOp) (i : BitVec 6) : LiveOnlyDrives (runVic op i) := by
  intro l d s
  cases op
  case rdSprpos | rdCr1 | rdRaster | rdLp | rdSpren | rdCr2 | rdSpryex | rdMemptr | rdIrqflag | rdIrqmask | rdSprmisc | rdColl
    | rdBorder | rdBg | rdSprcol | rdUnused => exact ⟨_, some _, rfl, rfl⟩
  case wrSprpos | wrCr1 | wrRaster | wrLp | wrSpren | wrCr2 | wrSpryex | wrMemptr | wrIrqflag | wrIrqmask | wrSprmisc | wrColl
    | wrBorder | wrBg | wrSprcol | wrUnused => exact ⟨_, d, rfl, rfl⟩

theorem liveOnlyDrives_vicAccess (rw : Bool) (a : Addr) : LiveOnlyDrives (vicAccess rw a) := by
  intro l d s
  obtain ⟨op, hop⟩ := Option.isSome_iff_exists.mp (lookup_vicRows_isSome (vicWord rw (vicIndexOf a)))
  simpa only [vicAccess, hop] using liveOnlyDrives_runVic op (vicIndexOf a) l d s

/-- What an operation does after the cycle is opened. -/
theorem LiveOnlyDrives.openCycle {f : State → Result} (h : LiveOnlyDrives f) : LiveOnlyDrives (fun s => f (openCycle s)) :=
  fun l d s => by simpa only [openCycle_withLive l d s] using h l none (Machine.openCycle s)

/-- What an operation does after the byte of the cycle is stored in RAM. -/
theorem LiveOnlyDrives.storeRam {f : State → Result} (h : LiveOnlyDrives f) (a : Addr) :
    LiveOnlyDrives (fun s => f (storeRam a s)) :=
  fun l d s => by simpa only [storeRam_withLive l d s a] using h l d (Machine.storeRam a s)

theorem liveOnlyDrives_runBus (op : BusOp) (m : BitVec 3) (a : Addr) : LiveOnlyDrives (runBus op m a) := by
  cases op
  case rdRam | rdSid | rdColor | rdIoexp | rdChar | rdBasic | rdKernal => exact fun l d s => ⟨_, some _, rfl, rfl⟩
  case rdVic => exact (liveOnlyDrives_vicAccess true a).openCycle
  case rdCia1 => exact (liveOnlyDrives_ciaAccess .cia1 true a).openCycle
  case rdCia2 => exact (liveOnlyDrives_ciaAccess .cia2 true a).openCycle
  case wrRam | wrSid | wrColor | wrIoexp => exact fun l d s => ⟨_, none, rfl, rfl⟩
  case wrVic => exact ((liveOnlyDrives_vicAccess false a).storeRam a).openCycle
  case wrCia1 => exact ((liveOnlyDrives_ciaAccess .cia1 false a).storeRam a).openCycle
  case wrCia2 => exact ((liveOnlyDrives_ciaAccess .cia2 false a).storeRam a).openCycle

theorem liveOnlyDrives_route (w : BitVec 20) : LiveOnlyDrives (route w) := by
  intro l d s
  obtain ⟨op, hop⟩ := Option.isSome_iff_exists.mp (lookup_busRows_isSome w)
  simpa only [route, hop] using liveOnlyDrives_runBus op (busMode w) (busAddr w) l d s

/-- A CLK that completes, completes with other live inputs, and they change nothing in what it leaves but the byte driven. -/
theorem execClk_withLive {s t : State} (h : execClk s = .next t) (l : LiveInputs) (d : Option Byte) :
    ∃ d', execClk (withLive l d s) = .next (withLive l d' t) := by
  obtain ⟨he, ⟨hr, rfl⟩ | ⟨hr, u, hu, -, rfl⟩⟩ := execClk_cases h
  · exact ⟨none, by rw [execClk_handshake (s := withLive l d s) he hr, handshakeClk_withLive]⟩
  · obtain ⟨u₁, d', hu₁, hlive⟩ := liveOnlyDrives_route (cycleWord s) l d (tickDevices s)
    obtain ⟨u₂, hu₂, -, ht⟩ := execClk_normal (s := withLive l d s) he hr
    obtain rfl := Host.Outcome.next.inj (hu₁.symm.trans hu)
    rw [cycleWord_withLive, tickDevices_withLive] at hu₂
    obtain rfl := Host.Outcome.next.inj (hlive.symm.trans hu₂)
    exact ⟨d', by rw [ht, emit_withLive]; rfl⟩

/-- Settles O16: the second state is the first with other live inputs and the same byte driven, and `execClk_withLive` says
where its CLK ends. -/
theorem liveInputsReachOnlyTheDataBus : Obligations.LiveInputsReachOnlyTheDataBus := by
  intro s t keys joy sid h
  obtain ⟨d', ht⟩ := execClk_withLive h ⟨keys, joy, sid⟩ s.out.dout
  exact ⟨_, ht, rfl⟩

end Sys2Proof.Machine
end

section
/-! PROOFS. The encoder against the opcode table: each table partitions its words (30_encoding.md R141, R158), so a row that bears an
operation on the operation's own word is the row the decoder reads, and every row's operation is encoded as the word that selected it. -/

namespace Sys2Proof.Laws

/-- The laws of the single operations, together. -/
theorem rowSelected : ∀ i : Instr, RowSelected.Statement i
  | .busRdRam m a => RowSelected.busRdRam m a
  | .busRdVic m a => RowSelected.busRdVic m a
  | .busRdSid m a => RowSelected.busRdSid m a
  | .busRdColor m a => RowSelected.busRdColor m a
  | .busRdCia1 m a => RowSelected.busRdCia1 m a
  | .busRdCia2 m a => RowSelected.busRdCia2 m a
  | .busRdIoexp m a => RowSelected.busRdIoexp m a
  | .busRdChar m a => RowSelected.busRdChar m a
  | .busRdBasic m a => RowSelected.busRdBasic m a
  | .busRdKernal m a => RowSelected.busRdKernal m a
  | .busWrRam m a => RowSelected.busWrRam m a
  | .busWrVic m a => RowSelected.busWrVic m a
  | .busWrSid m a => RowSelected.busWrSid m a
  | .busWrColor m a => RowSelected.busWrColor m a
  | .busWrCia1 m a => RowSelected.busWrCia1 m a
  | .busWrCia2 m a => RowSelected.busWrCia2 m a
  | .busWrIoexp m a => RowSelected.busWrIoexp m a
  | .cia1RdPra => RowSelected.cia1RdPra
  | .cia2RdPra => RowSelected.cia2RdPra
  | .cia1RdPrb => RowSelected.cia1RdPrb
  | .cia2RdPrb => RowSelected.cia2RdPrb
  | .ciaRdDdra k => RowSelected.ciaRdDdra k
  | .ciaRdDdrb k => RowSelected.ciaRdDdrb k
  | .ciaRdTalo k => RowSelected.ciaRdTalo k
  | .ciaRdTahi k => RowSelected.ciaRdTahi k
  | .ciaRdTblo k => RowSelected.ciaRdTblo k
  | .ciaRdTbhi k => RowSelected.ciaRdTbhi k
  | .ciaRdTod10 k => RowSelected.ciaRdTod10 k
  | .ciaRdTodsec k => RowSelected.ciaRdTodsec k
  | .ciaRdTodmin k => RowSelected.ciaRdTodmin k
  | .ciaRdTodhr k => RowSelected.ciaRdTodhr k
  | .ciaRdSdr k => RowSelected.ciaRdSdr k
  | .ciaRdIcr k => RowSelected.ciaRdIcr k
  | .ciaRdCra k => RowSelected.ciaRdCra k
  | .ciaRdCrb k => RowSelected.ciaRdCrb k
  | .ciaWrPra k => RowSelected.ciaWrPra k
  | .ciaWrPrb k => RowSelected.ciaWrPrb k
  | .ciaWrDdra k => RowSelected.ciaWrDdra k
  | .ciaWrDdrb k => RowSelected.ciaWrDdrb k
  | .ciaWrTalo k => RowSelected.ciaWrTalo k
  | .ciaWrTahi k => RowSelected.ciaWrTahi k
  | .ciaWrTblo k => RowSelected.ciaWrTblo k
  | .ciaWrTbhi k => RowSelected.ciaWrTbhi k
  | .ciaWrTod10 k => RowSelected.ciaWrTod10 k
  | .ciaWrTodsec k => RowSelected.ciaWrTodsec k
  | .ciaWrTodmin k => RowSelected.ciaWrTodmin k
  | .ciaWrTodhr k => RowSelected.ciaWrTodhr k
  | .ciaWrSdr k => RowSelected.ciaWrSdr k
  | .ciaWrIcr k => RowSelected.ciaWrIcr k
  | .ciaWrCra k => RowSelected.ciaWrCra k
  | .ciaWrCrb k => RowSelected.ciaWrCrb k
  | .vicRdSprpos i => RowSelected.vicRdSprpos i
  | .vicRdCr1 => RowSelected.vicRdCr1
  | .vicRdRaster => RowSelected.vicRdRaster
  | .vicRdLp i => RowSelected.vicRdLp i
  | .vicRdSpren => RowSelected.vicRdSpren
  | .vicRdCr2 => RowSelected.vicRdCr2
  | .vicRdSpryex => RowSelected.vicRdSpryex
  | .vicRdMemptr => RowSelected.vicRdMemptr
  | .vicRdIrqflag => RowSelected.vicRdIrqflag
  | .vicRdIrqmask => RowSelected.vicRdIrqmask
  | .vicRdSprmisc i => RowSelected.vicRdSprmisc i
  | .vicRdColl i => RowSelected.vicRdColl i
  | .vicRdBorder => RowSelected.vicRdBorder
  | .vicRdBg i => RowSelected.vicRdBg i
  | .vicRdSprcol i => RowSelected.vicRdSprcol i
  | .vicRdUnused i => RowSelected.vicRdUnused i
  | .vicWrSprpos i => RowSelected.vicWrSprpos i
  | .vicWrCr1 => RowSelected.vicWrCr1
  | .vicWrRaster => RowSelected.vicWrRaster
  | .vicWrLp i => RowSelected.vicWrLp i
  | .vicWrSpren => RowSelected.vicWrSpren
  | .vicWrCr2 => RowSelected.vicWrCr2
  | .vicWrSpryex => RowSelected.vicWrSpryex
  | .vicWrMemptr => RowSelected.vicWrMemptr
  | .vicWrIrqflag => RowSelected.vicWrIrqflag
  | .vicWrIrqmask => RowSelected.vicWrIrqmask
  | .vicWrSprmisc i => RowSelected.vicWrSprmisc i
  | .vicWrColl i => RowSelected.vicWrColl i
  | .vicWrBorder => RowSelected.vicWrBorder
  | .vicWrBg i => RowSelected.vicWrBg i
  | .vicWrSprcol i => RowSelected.vicWrSprcol i
  | .vicWrUnused i => RowSelected.vicWrUnused i
  | .clk => RowSelected.clk
  | .reset => RowSelected.reset

end Sys2Proof.Laws

namespace Sys2Proof.Machine

/-! ### Exactly one row -/

section Table
variable {n : Nat} {α : Type} {rows : List (Row n α)} {w : BitVec n}

theorem exists_row_of_isSome (h : (lookupRow rows w).isSome = true) :
    ∃ r ∈ rows, w &&& r.mask = r.val ∧ lookupRow rows w = some r.op := by
  obtain ⟨op, hop⟩ := Option.isSome_iff_exists.mp h
  obtain ⟨r, hr, hm, rfl⟩ := exists_row_of_lookupRow hop
  exact ⟨r, hr, hm, hop⟩

/-- Disjoint rows, one of which matches: two in the list of matching rows would be a pair that the word selects. -/
theorem length_filter_rows (hd : rows.Pairwise RowsDisjoint) (h : (lookupRow rows w).isSome = true) :
    (rows.filter (fun r => w &&& r.mask == r.val)).length = 1 := by
  obtain ⟨r, hr, hm, -⟩ := exists_row_of_isSome h
  have hmem : r ∈ rows.filter (fun r => w &&& r.mask == r.val) := List.mem_filter.mpr ⟨hr, beq_iff_eq.mpr hm⟩
  have hpair := hd.filter (fun r => w &&& r.mask == r.val)
  have hmatch : ∀ q ∈ rows.filter (fun r => w &&& r.mask == r.val), w &&& q.mask = q.val :=
    fun q hq => beq_iff_eq.mp (List.mem_filter.mp hq).2
  generalize rows.filter (fun r => w &&& r.mask == r.val) = matching at hmem hpair hmatch ⊢
  match matching with
  | [] => cases hmem
  | [_] => rfl
  | p :: q :: _ =>
    have hpq : RowsDisjoint p q := (List.pairwise_cons.mp hpair).1 q (by simp)
    exact (hpq.not_both (hmatch p (by simp)) (hmatch q (by simp))).elim

/-- In a table of disjoint rows, a matching row whose operation f turns into i is the one looked up. -/
theorem lookupRow_of_any {i : Instr} (f : α → Instr) (hd : rows.Pairwise RowsDisjoint)
    (h : rows.any (fun r => decide (w &&& r.mask = r.val) && decide (f r.op = i)) = true) :
    ∃ op, lookupRow rows w = some op ∧ f op = i := by
  simp only [List.any_eq_true, Bool.and_eq_true, decide_eq_true_eq] at h
  obtain ⟨r, hr, hm, hop⟩ := h
  exact ⟨r.op, lookupRow_of_mem hd hr hm, hop⟩

end Table

theorem ciaRows_disjoint : ciaRows.Pairwise RowsDisjoint := by
  unfold RowsDisjoint
  decide +kernel

theorem vicRows_disjoint : vicRows.Pairwise RowsDisjoint := by
  unfold RowsDisjoint
  decide +kernel

theorem eventRows_disjoint : eventRows.Pairwise RowsDisjoint := by
  unfold RowsDisjoint
  decide

/-- Both event codes are rows (30_encoding.md R157). -/
theorem lookup_eventRows_isSome : ∀ w : BitVec 1, (lookupRow eventRows w).isSome = true := by decide

/-- Settles O4: every table's rows are pairwise disjoint, and every word of its format selects one. -/
theorem exactlyOneRowMatches : Obligations.ExactlyOneRowMatches :=
  ⟨fun w => length_filter_rows busRows_disjoint (lookup_busRows_isSome w),
    fun w => length_filter_rows ciaRows_disjoint (lookup_ciaRows_isSome w),
    fun w => length_filter_rows vicRows_disjoint (lookup_vicRows_isSome w),
    fun w => length_filter_rows eventRows_disjoint (lookup_eventRows_isSome w)⟩

/-! ### The word of a selected row -/

theorem decodeWord_cia {w : BitVec 6} {op : CiaOp} (h : lookupRow ciaRows w = some op) :
    decodeWord (.cia w) = .ok (op.instr (ciaInst w)) := by
  simp only [decodeWord, h]

theorem decodeWord_vic {w : BitVec 7} {op : VicOp} (h : lookupRow vicRows w = some op) :
    decodeWord (.vic w) = .ok (op.instr (vicIndex w)) := by
  simp only [decodeWord, h]

theorem decodeWord_event {w : BitVec 1} {op : EventOp} (h : lookupRow eventRows w = some op) :
    decodeWord (.event w) = .ok op.instr := by
  simp only [decodeWord, h]

/-! ### Decode of encode -/

/-- A row that matches the word and bears i on its fields is the row the decoder reads. -/
theorem decodeWord_of_rowSelects {c : CodeWord} {i : Instr} (h : Laws.rowSelects c i = true) : decodeWord c = .ok i := by
  cases c with
  | bus w =>
    obtain ⟨op, hop, rfl⟩ := lookupRow_of_any (fun op : BusOp => op.instr (busMode w) (busAddr w)) busRows_disjoint h
    exact decodeWord_bus hop
  | cia w =>
    obtain ⟨op, hop, rfl⟩ := lookupRow_of_any (fun op : CiaOp => op.instr (ciaInst w)) ciaRows_disjoint h
    exact decodeWord_cia hop
  | vic w =>
    obtain ⟨op, hop, rfl⟩ := lookupRow_of_any (fun op : VicOp => op.instr (vicIndex w)) vicRows_disjoint h
    exact decodeWord_vic hop
  | event w =>
    obtain ⟨op, hop, rfl⟩ := lookupRow_of_any EventOp.instr eventRows_disjoint h
    exact decodeWord_event hop

/-- Settles O2: a row bearing the operation matches its word, and the decoder reads no other row. -/
theorem decodeOfEncode : Obligations.DecodeOfEncode :=
  fun i hwf => decodeWord_of_rowSelects (Laws.rowSelected i hwf)

/-! ### Encode of decode -/

/-- The operation that a read target names is well formed where the address has that target, and is the read's word. -/
theorem encode_readInstr {t : Target} {m : BitVec 3} {a : Addr} (ht : readTarget m a = some t) :
    (readInstr t m a).wellFormed = true ∧ encode (readInstr t m a) = .bus (busWord true m a) := by
  cases t <;> exact ⟨beq_iff_eq.mpr ht, rfl⟩

/-- A write outside the I/O windows is the plain RAM write, whatever a read there would reach (20_memory.md R111). -/
theorem encode_writeInstr {t : Target} {m : BitVec 3} {a : Addr} (ht : readTarget m a = some t) :
    (writeInstr t m a).wellFormed = true ∧ encode (writeInstr t m a) = .bus (busWord false m a) := by
  cases t
  case ram | char | basic | kernal => exact ⟨by simp [writeInstr, Instr.wellFormed, plainWrite, ht], rfl⟩
  case vic | sid | color | cia1 | cia2 | ioexp => exact ⟨beq_iff_eq.mpr ht, rfl⟩

/-- A row fixes every bit of a matching word that is no operand field of its operation, so the word can be built again from that
operation; so too in the VIC and the EVENT table (30_encoding.md R141, R155-R157). -/
theorem encode_ciaRow : ∀ r ∈ ciaRows, ∀ w, w &&& r.mask = r.val →
    (r.op.instr (ciaInst w)).wellFormed = true ∧ encode (r.op.instr (ciaInst w)) = .cia w := by
  decide +kernel

theorem encode_vicRow : ∀ r ∈ vicRows, ∀ w, w &&& r.mask = r.val →
    (r.op.instr (vicIndex w)).wellFormed = true ∧ encode (r.op.instr (vicIndex w)) = .vic w := by
  decide +kernel

theorem encode_eventRow : ∀ r ∈ eventRows, ∀ w, w &&& r.mask = r.val →
    r.op.instr.wellFormed = true ∧ encode r.op.instr = .event w := by
  decide

/-- Settles O3: a BUS word by its direction and its address's target, a word of the other formats by the row it selects. -/
theorem everyWordIsAnOperation : Obligations.EveryWordIsAnOperation := by
  intro c
  cases c with
  | bus w =>
    obtain ⟨t, ht, hread, hwrite⟩ := busDecodeFollowsTargets (busMode w) (busAddr w)
    rw [← busWord_eta w]
    cases busRead w with
    | true => exact ⟨_, hread, encode_readInstr ht⟩
    | false => exact ⟨_, hwrite, encode_writeInstr ht⟩
  | cia w =>
    obtain ⟨r, hr, hm, hop⟩ := exists_row_of_isSome (lookup_ciaRows_isSome w)
    exact ⟨_, decodeWord_cia hop, encode_ciaRow r hr w hm⟩
  | vic w =>
    obtain ⟨r, hr, hm, hop⟩ := exists_row_of_isSome (lookup_vicRows_isSome w)
    exact ⟨_, decodeWord_vic hop, encode_vicRow r hr w hm⟩
  | event w =>
    obtain ⟨r, hr, hm, hop⟩ := exists_row_of_isSome (lookup_eventRows_isSome w)
    exact ⟨_, decodeWord_event hop, encode_eventRow r hr w hm⟩

/-! ### Sample words -/

/-- Settles O1: the decoder evaluated on the nineteen words. -/
theorem sampleWordsDecode : Obligations.SampleWordsDecode := by
  unfold Obligations.SampleWordsDecode
  decide

end Sys2Proof.Machine
end

section
/-! PROOFS. A tick of a timer, case by case, and a running timer's ticks up to its underflow: the counter goes down by one a tick
modulo 65536, so the underflow is the tick numbered by the counter, the 65536th for a counter of $0000 (40_timer_unit.md R170-R176). -/

namespace Sys2Proof.Machine

/-! ### One tick -/

theorem timerSignal_stopped {x : TimerId} {c : Cia} (h : timerRunning x c = false) : timerSignal x c = false := by
  simp [timerSignal, reachesZero_eq, h]

theorem timerSignal_counting {x : TimerId} {c : Cia} (hc : timerCounter x c ≠ 1#16) : timerSignal x c = false := by
  simp [timerSignal, reachesZero_eq, hc]

theorem timerSignal_underflow {x : TimerId} {c : Cia} (h : timerRunning x c = true) (hc : timerCounter x c = 1#16) :
    timerSignal x c = timerUnmasked x c := by
  simp [timerSignal, reachesZero_eq, h, hc]

theorem timerTick_singleShot {x : TimerId} {c : Cia} (h : timerRunning x c = true) (hc : timerCounter x c = 1#16)
    (hs : timerSingleShot x c = true) : timerTick x c = stopTimer x (underflowFlags x (countDown x c)) := by
  simp [timerTick_underflow h hc, underflow, hs]

theorem timerTick_continuous {x : TimerId} {c : Cia} (h : timerRunning x c = true) (hc : timerCounter x c = 1#16)
    (hs : timerSingleShot x c = false) : timerTick x c = loadTimer x (underflowFlags x (countDown x c)) := by
  simp [timerTick_underflow h hc, underflow, hs]

@[simp] theorem timerCounter_underflowFlags (x : TimerId) (c : Cia) :
    timerCounter x (underflowFlags x c) = timerCounter x c := by
  obtain ⟨-, -, -, hl, hh, -⟩ := timer_indices_distinct x
  rw [timerCounter, underflowFlags_read x c hl, underflowFlags_read x c hh, timerCounter]

@[simp] theorem timerCounter_stopTimer (x : TimerId) (c : Cia) : timerCounter x (stopTimer x c) = timerCounter x c := by
  obtain ⟨-, hl, hh, -⟩ := timer_indices_distinct x
  rw [timerCounter, stopTimer_r, read_write_other _ _ _ _ hl, read_write_other _ _ _ _ hh, timerCounter]

theorem timerLatch_eq_of_w {x : TimerId} {c d : Cia} (h : d.w = c.w) : timerLatch x d = timerLatch x c := by
  rw [timerLatch, h, timerLatch]

/-- Neither the count nor the flags of an underflow touch the control register. -/
theorem underflowFlags_countDown_control (x : TimerId) (c : Cia) :
    (underflowFlags x (countDown x c)).r.read (timerCr x) = c.r.read (timerCr x) := by
  obtain ⟨-, hl, hh, -, -, hd⟩ := timer_indices_distinct x
  rw [underflowFlags_read x _ hd, countDown_read c hl.symm hh.symm]

/-- The two bits of an underflow, in R170's words: the source's own, and bit 7. -/
theorem icrRaise_timerBit (x : TimerId) (v : Byte) :
    icrRaise (timerBit x) v = v ||| BitVec.ofNat 8 (2 ^ timerBit x) ||| 0x80#8 := by
  rw [icrRaise, BitVec.or_assoc]
  cases x <;> rfl

theorem icrRaise_source (x : TimerId) (v : Byte) : (icrRaise (timerBit x) v).getLsbD (timerBit x) = true := by
  cases x <;> simp [icrRaise, timerBit]

theorem icrRaise_aggregate (x : TimerId) (v : Byte) : (icrRaise (timerBit x) v).getLsbD 7 = true := by
  simp [icrRaise]

/-- Settles O40: the tick's equation in each of R170's cases, and the laws of what the tick leaves. -/
theorem timerTickCases : Obligations.TimerTickCases := by
  refine ⟨by decide, by decide, fun x c =>
    ⟨fun hr => ⟨timerTick_stopped hr, timerSignal_stopped hr⟩, fun hr => ⟨fun hc => ?counting, fun hc => ?underflow⟩⟩⟩
  case counting =>
    rw [timerTick_counting hr hc]
    exact ⟨timerCounter_countDown x c, timerSignal_counting hc, fun _ hl hh => countDown_read c hl hh, countDown_w x c⟩
  case underflow =>
    have hsig : timerSignal x c = timerUnmasked x c := timerSignal_underflow hr hc
    refine ⟨hsig, ?flags, fun hs => ?singleShot, fun hs => ?continuous, fun _ => timerTick_read x c,
      fun _ => timerTick_latch x c⟩
    case flags =>
      rw [timerTick_icr, hsig, icrRaise_timerBit]
      rfl
    case singleShot =>
      rw [timerTick_singleShot hr hc hs]
      refine ⟨by simp [hc], ?_, ?_⟩
      · rw [stopTimer_r, read_write_same, underflowFlags_countDown_control]
      · rw [stopTimer_w, read_write_same, underflowFlags_w, countDown_w]
    case continuous =>
      obtain ⟨-, hl, hh, -⟩ := timer_indices_distinct x
      rw [timerTick_continuous hr hc hs]
      refine ⟨?_, ?_, ?_⟩
      · rw [timerCounter_loadTimer]
        exact timerLatch_eq_of_w (by simp)
      · rw [loadTimer_r, read_write_other _ _ _ _ hh.symm, read_write_other _ _ _ _ hl.symm,
          underflowFlags_countDown_control]
      · rw [loadTimer_w, underflowFlags_w, countDown_w]

/-! ### The ticks up to the underflow -/

/-- The ticks of a running timer that come before its underflow: counter - 1 of them, modulo 65536. -/
def ticksBefore (x : TimerId) (c : Cia) : Nat := (timerCounter x c - 1#16).toNat

/-- d is c with the timer, still running, counted down by n and no flag or latch changed. -/
structure CountedDown (x : TimerId) (n : Nat) (c d : Cia) : Prop where
  running : timerRunning x d = true
  counter : timerCounter x d = timerCounter x c - BitVec.ofNat 16 n
  flags : d.r.read 0xD#4 = c.r.read 0xD#4
  latches : d.w = c.w

section Count
variable {x : TimerId} {n : Nat} {c d : Cia}

theorem CountedDown.counter_eq_one_iff (h : CountedDown x n c d) (hn : n ≤ ticksBefore x c) :
    timerCounter x d = 1#16 ↔ n = ticksBefore x c := by
  unfold ticksBefore at *
  rw [h.counter]
  constructor <;> intro _ <;> bv_omega

theorem CountedDown.reachesZero_eq_decide (h : CountedDown x n c d) (hn : n ≤ ticksBefore x c) :
    reachesZero x d = decide (n = ticksBefore x c) := by
  rw [reachesZero_eq, h.running, Bool.true_and, Bool.beq_eq_decide_eq]
  exact decide_eq_decide.mpr (h.counter_eq_one_iff hn)

theorem CountedDown.tick (h : CountedDown x n c d) (hn : n < ticksBefore x c) : CountedDown x (n + 1) c (timerTick x d) := by
  obtain ⟨-, -, -, hl, hh, -⟩ := timer_indices_distinct x
  have hc : timerCounter x d ≠ 1#16 := fun h1 => hn.ne ((h.counter_eq_one_iff hn.le).mp h1)
  rw [timerTick_counting h.running hc]
  exact {
    running := by rw [timerRunning_countDown, h.running]
    counter := by rw [timerCounter_countDown, h.counter]; bv_omega
    flags := by rw [countDown_read d hl.symm hh.symm, h.flags]
    latches := by rw [countDown_w, h.latches] }

theorem countedDown_iterate (hr : timerRunning x c = true) :
    ∀ n ≤ ticksBefore x c, CountedDown x n c ((timerTick x)^[n] c)
  | 0, _ => ⟨hr, by simp, rfl, rfl⟩
  | n + 1, hn => by
    rw [Function.iterate_succ_apply']
    exact (countedDown_iterate hr n (by omega)).tick (by omega)

/-- Of the ticks up to `ticksBefore`, the last alone is an underflow. -/
theorem reachesZero_iterate (hr : timerRunning x c = true) (hn : n ≤ ticksBefore x c) :
    reachesZero x ((timerTick x)^[n] c) = decide (n = ticksBefore x c) :=
  (countedDown_iterate hr n hn).reachesZero_eq_decide hn

/-- The flags after the underflow of an unmasked timer. -/
theorem iterate_underflow_icr (hr : timerRunning x c = true) (hm : timerUnmasked x c = true) :
    ((timerTick x)^[ticksBefore x c + 1] c).r.read 0xD#4 = icrRaise (timerBit x) (c.r.read 0xD#4) := by
  have h := countedDown_iterate hr _ le_rfl
  have hm' : timerUnmasked x ((timerTick x)^[ticksBefore x c] c) = true := by rw [timerUnmasked, h.latches]; exact hm
  have hsig := timerSignal_underflow h.running ((h.counter_eq_one_iff le_rfl).mpr rfl)
  rw [Function.iterate_succ_apply', timerTick_icr, hsig, if_pos hm', h.flags]

theorem ticksBefore_add_one (hc : timerCounter x c ≠ 0#16) : ticksBefore x c + 1 = (timerCounter x c).toNat := by
  unfold ticksBefore
  bv_omega

theorem ticksBefore_of_zero (hc : timerCounter x c = 0#16) : ticksBefore x c = 65535 := by
  rw [ticksBefore, hc]
  rfl

end Count

/-- Settles O41: of a counter N ≥ 1 the ticks before the underflow are N - 1, and none of them changes the flags. -/
theorem timerCountLaw : Obligations.TimerCountLaw := by
  intro x c hr hc
  have hN := ticksBefore_add_one hc
  refine ⟨fun n hn => ?before, fun hm => ?after⟩
  case before =>
    have h := countedDown_iterate hr n (by omega)
    refine ⟨?_, h.flags, ?_⟩
    · rw [h.counter]
      bv_omega
    · rw [h.reachesZero_eq_decide (by omega)]
      exact decide_eq_decide.mpr (by omega)
  case after =>
    rw [← hN, iterate_underflow_icr hr hm]
    exact ⟨icrRaise_source x _, icrRaise_aggregate x _⟩

/-- Settles O42: of a counter $0000 the ticks before the underflow are 65535, the first of them the wrap. -/
theorem zeroCountLasts65536Ticks : Obligations.ZeroCountLasts65536Ticks := by
  intro x c hr hc
  have hN := ticksBefore_of_zero hc
  have first := countedDown_iterate hr 1 (by omega)
  refine ⟨?_, first.flags, fun n hn => ?_⟩
  · rw [← Function.iterate_one (timerTick x), first.counter, hc]
    rfl
  · rw [reachesZero_iterate hr (by omega), hN]

end Sys2Proof.Machine
end

section
/-! PROOFS. The CIA register operations (41_cia_registers.md R190-R231): an operation's own select word decodes to it, a read drives
one byte, a write changes one CIA by a store whose registers are read back one by one. -/

namespace Sys2Proof.Machine

/-- The decoder reads back the word of a well-formed operation. -/
theorem decodeWord_of_encode {c : CodeWord} {i : Instr} (hwf : i.wellFormed = true) (h : encode i = c) :
    decodeWord c = .ok i := h ▸ decodeOfEncode i hwf

/-! ### Reads -/

/-- Settles O30: each read is the plain read of its register, and its word is the one that encodes it. -/
theorem ciaPlainReads : Obligations.CiaPlainReads := by
  refine ⟨?ports, fun _ => ?words, fun k s => ?reads⟩
  case ports => exact ⟨decodeWord_of_encode rfl rfl, decodeWord_of_encode rfl rfl⟩
  case words => refine ⟨?_, ?_, ?_, ?_, ?_, ?_, ?_⟩ <;> exact decodeWord_of_encode rfl rfl
  case reads => exact ⟨rfl, rfl, rfl, rfl, rfl, rfl, rfl, rfl, rfl⟩

theorem ciaPlainRead_timerLo (k : CiaId) (x : TimerId) (s : State) :
    ciaPlainRead k (timerLo x) s = drives ((timerCounter x (s.cia k)).extractLsb' 0 8) s := by
  rw [timerCounter_lo]
  rfl

theorem ciaPlainRead_timerHi (k : CiaId) (x : TimerId) (s : State) :
    ciaPlainRead k (timerHi x) s = drives ((timerCounter x (s.cia k)).extractLsb' 8 8) s := by
  rw [timerCounter_hi]
  rfl

/-- Settles O31: a timer byte is the plain read of a byte of the read-view pair, which is the live counter. -/
theorem ciaTimerReads : Obligations.CiaTimerReads := by
  refine ⟨fun _ => ?words, fun k s => ⟨?talo, ?tahi, ?tblo, ?tbhi, rfl, rfl⟩⟩
  case words => refine ⟨?_, ?_, ?_, ?_, ?_, ?_⟩ <;> exact decodeWord_of_encode rfl rfl
  case talo => exact congrArg _ (ciaPlainRead_timerLo k .a s)
  case tahi => exact congrArg _ (ciaPlainRead_timerHi k .a s)
  case tblo => exact congrArg _ (ciaPlainRead_timerLo k .b s)
  case tbhi => exact congrArg _ (ciaPlainRead_timerHi k .b s)

/-- The state after an ICR read (41_cia_registers.md R209). -/
def icrRead (k : CiaId) (s : State) : State :=
  answer ((s.cia k).r.read 0xD#4) (s.setCia k ((s.cia k).setRead 0xD#4 0x00#8))

theorem exec_ciaRdIcr (k : CiaId) (s : State) : exec (.ciaRdIcr k) s = .next (icrRead k s) := rfl

@[simp] theorem icrRead_cia (k : CiaId) (s : State) : (icrRead k s).cia k = (s.cia k).setRead 0xD#4 0x00#8 := by
  rw [icrRead, answer_cia, setCia_cia_same]

@[simp] theorem icrRead_out (k : CiaId) (s : State) :
    (icrRead k s).out = { s.out with dout := some ((s.cia k).r.read 0xD#4) } := by
  rw [icrRead, answer_out, setCia_out]

/-- Settles O34: the read stores $00 over the flags, so the next one finds $00. -/
theorem icrReadClears : Obligations.IcrReadClears := by
  refine ⟨fun _ => decodeWord_of_encode rfl rfl, fun k s =>
    ⟨icrRead k s, exec_ciaRdIcr k s, icrRead_out k s, fun j => ?flags, ?mask, ?frame, ?second⟩⟩
  case flags => rw [icrRead_cia, setRead_r, read_write]
  case mask => rw [icrRead_cia, setRead_w]
  case frame => cases k <;> rfl
  case second => exact ⟨_, exec_ciaRdIcr k _, by simp⟩

/-! ### Writes -/

/-- A write of CIA k touches nothing else: with the CIA as it was, the state is as it was. -/
theorem setCia_restore (s : State) (k : CiaId) (c : Cia) : (s.setCia k c).setCia k (s.cia k) = s := by
  rw [setCia_setCia, setCia_self]

theorem ciaPlainWrite_cia (k : CiaId) (i : BitVec 4) (s : State) :
    (ciaPlainWrite k i s).cia k = (s.cia k).storeBoth i s.inp.d := setCia_cia_same s k _

/-- Settles O35: each write is the plain write of its register. -/
theorem ciaPlainWrites : Obligations.CiaPlainWrites := by
  refine ⟨fun _ => ?words, fun k s i x hi => ?write⟩
  case words => refine ⟨?_, ?_, ?_, ?_, ?_, ?_, ?_, ?_, ?_⟩ <;> exact decodeWord_of_encode rfl rfl
  case write =>
    have hexec : exec i s = .next (ciaPlainWrite k x s) := by
      rcases hi with ⟨rfl, rfl⟩ | ⟨rfl, rfl⟩ | ⟨rfl, rfl⟩ | ⟨rfl, rfl⟩ | ⟨rfl, rfl⟩ | ⟨rfl, rfl⟩ | ⟨rfl, rfl⟩ | ⟨rfl, rfl⟩ |
        ⟨rfl, rfl⟩ <;> rfl
    refine ⟨_, hexec, fun j => ?_, fun j => ?_, setCia_restore s k _⟩
    · rw [ciaPlainWrite_cia, storeBoth_r, read_write]
    · rw [ciaPlainWrite_cia, storeBoth_w, read_write]

theorem ciaTimerLowWrite_cia (k : CiaId) (x : TimerId) (s : State) :
    (ciaTimerLowWrite k x s).cia k = (s.cia k).setLatch (timerLo x) s.inp.d := setCia_cia_same s k _

/-- What a low-byte write of either timer does (41_cia_registers.md R220, R222). -/
theorem ciaTimerLowWrite_spec (k : CiaId) (x : TimerId) (s : State) :
    ((ciaTimerLowWrite k x s).cia k).r = (s.cia k).r ∧
      (∀ j, ((ciaTimerLowWrite k x s).cia k).w.read j = if j = timerLo x then s.inp.d else (s.cia k).w.read j) ∧
      (ciaTimerLowWrite k x s).setCia k (s.cia k) = s := by
  rw [ciaTimerLowWrite_cia]
  exact ⟨setLatch_r _ _ _, fun j => read_write _ _ j _, setCia_restore s k _⟩

/-- Settles O36: the low-byte write of timer A and of timer B. -/
theorem timerLowByteWrites : Obligations.TimerLowByteWrites :=
  ⟨fun _ => ⟨decodeWord_of_encode rfl rfl, decodeWord_of_encode rfl rfl⟩,
    fun k s => ⟨⟨_, rfl, ciaTimerLowWrite_spec k .a s⟩, ⟨_, rfl, ciaTimerLowWrite_spec k .b s⟩⟩⟩

theorem ciaTimerHighWrite_cia (k : CiaId) (x : TimerId) (s : State) :
    (ciaTimerHighWrite k x s).cia k = timerHighStore x s.inp.d (s.cia k) := setCia_cia_same s k _

theorem timerHighStore_stopped_read {x : TimerId} {c : Cia} (d : Byte) (h : timerRunning x c = false) (j : BitVec 4) :
    (timerHighStore x d c).r.read j =
      if j = timerLo x then c.w.read (timerLo x) else if j = timerHi x then d else c.r.read j := by
  have hd := (timer_indices_distinct x).1
  rw [timerHighStore_stopped d h, read_write, read_write]
  by_cases hl : j = timerLo x
  · rw [if_pos hl, if_neg (hl ▸ hd), if_pos hl]
  · rw [if_neg hl, if_neg hl]

/-- What a high-byte write of either timer does (41_cia_registers.md R221, R223). -/
theorem ciaTimerHighWrite_spec (k : CiaId) (x : TimerId) (s : State) :
    (∀ j, ((ciaTimerHighWrite k x s).cia k).w.read j = if j = timerHi x then s.inp.d else (s.cia k).w.read j) ∧
      (timerRunning x (s.cia k) = true → ((ciaTimerHighWrite k x s).cia k).r = (s.cia k).r) ∧
      (timerRunning x (s.cia k) = false →
        ∀ j, ((ciaTimerHighWrite k x s).cia k).r.read j =
          if j = timerLo x then (s.cia k).w.read (timerLo x) else if j = timerHi x then s.inp.d else (s.cia k).r.read j) ∧
      (ciaTimerHighWrite k x s).setCia k (s.cia k) = s := by
  rw [ciaTimerHighWrite_cia, timerHighStore_w]
  exact ⟨fun j => read_write _ _ j _, timerHighStore_running _, timerHighStore_stopped_read _, setCia_restore s k _⟩

/-- Settles O37: the high-byte write of timer A and of timer B. -/
theorem timerHighByteWrites : Obligations.TimerHighByteWrites :=
  ⟨fun _ => ⟨decodeWord_of_encode rfl rfl, decodeWord_of_encode rfl rfl⟩,
    fun k s => ⟨⟨_, rfl, ciaTimerHighWrite_spec k .a s⟩, ⟨_, rfl, ciaTimerHighWrite_spec k .b s⟩⟩⟩

/-- The bits of $1F are 0 to 4, the mask bits that a write can reach. -/
theorem icrWritable_getLsbD : ∀ b < 8, (0x1F#8).getLsbD b = decide (b < 5) := by decide

theorem icrMaskWrite_getLsbD (d mask : Byte) {b : Nat} (hb : b < 8) :
    (icrMaskWrite d mask).getLsbD b =
      if b < 5 then (if d.getLsbD 7 then mask.getLsbD b || d.getLsbD b else mask.getLsbD b && !d.getLsbD b)
      else mask.getLsbD b := by
  unfold icrMaskWrite
  split
  · rw [BitVec.getLsbD_or, BitVec.getLsbD_and, icrWritable_getLsbD b hb]
    by_cases h5 : b < 5 <;> simp [h5]
  · rw [BitVec.getLsbD_and, BitVec.getLsbD_not, BitVec.getLsbD_and, icrWritable_getLsbD b hb]
    by_cases h5 : b < 5 <;> simp [h5, hb]

/-- Settles O38: bit by bit in the mask, and the store in the write view alone. (The model's function bears the plain name.) -/
theorem icrMaskWriteHolds : Obligations.IcrMaskWrite := by
  refine ⟨fun _ => decodeWord_of_encode rfl rfl, fun k s =>
    ⟨_, rfl, fun b hb => ?mask, fun j hj => ?others, ?flags, setCia_restore s k _⟩⟩
  case mask => rw [setCia_cia_same, setLatch_w, read_write_same, icrMaskWrite_getLsbD _ _ hb]
  case others => rw [setCia_cia_same, setLatch_w, read_write_other _ _ _ _ hj]
  case flags => rw [setCia_cia_same, setLatch_r]

theorem ciaControlWrite_cia (k : CiaId) (x : TimerId) (s : State) :
    (ciaControlWrite k x s).cia k = controlStore x s.inp.d (s.cia k) := setCia_cia_same s k _

theorem controlStore_read (x : TimerId) (d : Byte) (c : Cia) (j : BitVec 4) :
    (controlStore x d c).r.read j =
      if j = timerCr x then d
      else if d.getLsbD 4 = true ∧ (j = timerLo x ∨ j = timerHi x) then c.w.read j
      else c.r.read j := by
  obtain ⟨hd, hl, hh, -⟩ := timer_indices_distinct x
  rw [controlStore_r]
  cases d.getLsbD 4 with
  | false => simp [read_write]
  | true =>
    simp only [if_true, read_write, true_and]
    by_cases hjc : j = timerCr x
    · simp [hjc, hl.symm, hh.symm]
    · by_cases hjh : j = timerHi x
      · simp [hjh, hh]
      · by_cases hjl : j = timerLo x
        · simp [hjl, hd, hl]
        · simp [hjc, hjh, hjl]

/-- What a control write of either timer does (41_cia_registers.md R230, R231). -/
theorem ciaControlWrite_spec (k : CiaId) (x : TimerId) (s : State) :
    (∀ j, ((ciaControlWrite k x s).cia k).w.read j = if j = timerCr x then s.inp.d else (s.cia k).w.read j) ∧
      (∀ j, ((ciaControlWrite k x s).cia k).r.read j =
        if j = timerCr x then s.inp.d
        else if s.inp.d.getLsbD 4 = true ∧ (j = timerLo x ∨ j = timerHi x) then (s.cia k).w.read j
        else (s.cia k).r.read j) ∧
      (ciaControlWrite k x s).setCia k (s.cia k) = s := by
  rw [ciaControlWrite_cia, controlStore_w]
  exact ⟨fun j => read_write _ _ j _, controlStore_read x _ _, setCia_restore s k _⟩

/-- Settles O39: the control write of timer A and of timer B. -/
theorem timerControlWrites : Obligations.TimerControlWrites :=
  ⟨fun _ => ⟨decodeWord_of_encode rfl rfl, decodeWord_of_encode rfl rfl⟩,
    fun k s => ⟨⟨_, rfl, ciaControlWrite_spec k .a s⟩, ⟨_, rfl, ciaControlWrite_spec k .b s⟩⟩⟩

end Sys2Proof.Machine
end

section
/-! PROOFS. The live inputs of CIA1's ports, bit by bit: a held direction clears its bit of JOY_IDLE, and a key that matches the
select byte clears the bits of its column (41_cia_registers.md R191-R195). -/

namespace Sys2Proof.Machine

/-! ### The joystick -/

theorem joyIdle_eq : Config.joyIdle = 0x7F#8 ∨ Config.joyIdle = 0xFF#8 := by
  unfold Config.joyIdle
  cases Config.joyVariant with
  | idle7F => exact .inl rfl
  | idleFF => exact .inr rfl

/-- The bit of a direction and of fire is 1 in both idle values. -/
theorem joyIdle_getLsbD : ∀ b < 5, Config.joyIdle.getLsbD b = true := by
  rcases joyIdle_eq with h | h <;> rw [h] <;> decide

theorem joyBits_getLsbD : ∀ j : Joystick,
    (joyBits j).getLsbD 0 = j.up ∧ (joyBits j).getLsbD 1 = j.down ∧ (joyBits j).getLsbD 2 = j.left ∧
      (joyBits j).getLsbD 3 = j.right ∧ (joyBits j).getLsbD 4 = j.fire ∧ (joyBits j).getLsbD 5 = false ∧
      (joyBits j).getLsbD 6 = false ∧ (joyBits j).getLsbD 7 = false := by
  rintro ⟨up, down, left, right, fire⟩
  revert up down left right fire
  decide

theorem joyValue_some_getLsbD (idle : Byte) (j : Joystick) {b : Nat} (hb : b < 8) :
    (joyValue idle (some j)).getLsbD b = (idle.getLsbD b && !(joyBits j).getLsbD b) := by
  simp [joyValue, hb]

/-- Settles O32: a bit of the byte is the idle bit, cleared if it is that of a held direction. -/
theorem joystickPortRead : Obligations.JoystickPortRead := by
  refine ⟨decodeWord_of_encode rfl rfl, joyIdle_eq, fun s =>
    ⟨joyValue Config.joyIdle s.inp.joy, rfl, fun hnone => by rw [hnone]; rfl, fun j hj => ?held⟩⟩
  obtain ⟨hup, hdown, hleft, hright, hfire, h5, h6, h7⟩ := joyBits_getLsbD j
  rw [hj]
  simp only [joyValue_some_getLsbD, joyIdle_getLsbD, hup, hdown, hleft, hright, hfire, h5, h6, h7, Nat.reduceLT,
    Bool.true_and, Bool.not_false, Bool.and_true, and_self]

/-! ### The keyboard -/

/-- A bit of the scan: 1 unless the column of a matching key clears it. -/
theorem keyColumns_getLsbD (sel : Byte) {b : Nat} (hb : b < 8) (keys : List (Byte × Byte)) :
    (keyColumns sel keys).getLsbD b = true ↔ ∀ key ∈ keys, key.1 ||| sel ≠ 0xFF#8 → key.2.getLsbD b = true := by
  induction keys with
  | nil =>
    have : (0xFF#8).getLsbD b = true := by revert b; decide
    simpa [keyColumns] using this
  | cons key keys ih =>
    obtain ⟨row, col⟩ := key
    rw [List.forall_mem_cons, ← ih, keyColumns]
    split
    · next hmiss => simp [hmiss]
    · next hmatch => simp [hmatch]

theorem keyScan_busy {keys : List (Byte × Byte)} {sel : Byte} (h : sel = 0x00#8 ∧ keys ≠ []) : keyScan keys sel = 0x20#8 := by
  simp [keyScan, h]

theorem keyScan_columns {keys : List (Byte × Byte)} {sel : Byte} (h : ¬(sel = 0x00#8 ∧ keys ≠ [])) :
    keyScan keys sel = keyColumns sel keys := by
  rw [keyScan, if_neg]
  simpa using h

/-- Settles O33: the busy probe, and otherwise the AND of the matching columns bit by bit. -/
theorem keyboardPortRead : Obligations.KeyboardPortRead := by
  refine ⟨decodeWord_of_encode rfl rfl, fun s =>
    ⟨keyScan s.inp.keys (s.cia1.r.read 0x0#4), rfl, keyScan_busy, fun hscan b hb => ?_⟩⟩
  rw [keyScan_columns hscan, keyColumns_getLsbD _ hb]

end Sys2Proof.Machine
end

section
/-! PROOFS. The two timers of a CIA do not meet: a tick of one neither reads nor changes the other's bytes, and the ICR flags, which
both raise, are only ORed into. So the order of the two ticks cannot be seen (40_timer_unit.md R177, 41_cia_registers.md R240). -/

namespace Sys2Proof.Machine

/-- The registers of timer x: both bytes and the control register. -/
def TimerOwns (x : TimerId) (j : BitVec 4) : Prop := j = timerLo x ∨ j = timerHi x ∨ j = timerCr x

/-- All that a tick of timer x looks at, the flags apart, is the same in c and d. -/
structure SameTimer (x : TimerId) (c d : Cia) : Prop where
  reads : ∀ j, TimerOwns x j → c.r.read j = d.r.read j
  latches : ∀ j, TimerOwns x j → c.w.read j = d.w.read j
  mask : c.w.read 0xD#4 = d.w.read 0xD#4

variable {x y : TimerId} {c d : Cia} {j : BitVec 4}

/-- Two CIAs with the same views are one. -/
theorem cia_ext (hr : c.r = d.r) (hw : c.w = d.w) : c = d := by
  cases c
  cases d
  exact congrArg₂ Cia.mk hr hw

theorem timerOwns_lo (x : TimerId) : TimerOwns x (timerLo x) := .inl rfl
theorem timerOwns_hi (x : TimerId) : TimerOwns x (timerHi x) := .inr (.inl rfl)
theorem timerOwns_cr (x : TimerId) : TimerOwns x (timerCr x) := .inr (.inr rfl)

theorem TimerOwns.ne_icr (h : TimerOwns x j) : j ≠ 0xD#4 := by
  rcases h with rfl | rfl | rfl <;> cases x <;> decide

/-- A register has at most one owner. -/
theorem TimerOwns.not_other (h : TimerOwns x j) (hxy : x ≠ y) : ¬ TimerOwns y j := by
  cases x <;> cases y
  case a.a | b.b => exact absurd rfl hxy
  case a.b | b.a =>
    unfold TimerOwns
    rcases h with rfl | rfl | rfl <;> decide

theorem SameTimer.symm (h : SameTimer x c d) : SameTimer x d c where
  reads j hj := (h.reads j hj).symm
  latches j hj := (h.latches j hj).symm
  mask := h.mask.symm

theorem SameTimer.trans {e : Cia} (h : SameTimer x c d) (g : SameTimer x d e) : SameTimer x c e where
  reads j hj := (h.reads j hj).trans (g.reads j hj)
  latches j hj := (h.latches j hj).trans (g.latches j hj)
  mask := h.mask.trans g.mask

/-! ### What a tick looks at -/

section Same
variable (h : SameTimer x c d)
include h

theorem SameTimer.counter : timerCounter x c = timerCounter x d := by
  rw [timerCounter, h.reads _ (timerOwns_lo x), h.reads _ (timerOwns_hi x), timerCounter]

theorem SameTimer.latch : timerLatch x c = timerLatch x d := by
  rw [timerLatch, h.latches _ (timerOwns_lo x), h.latches _ (timerOwns_hi x), timerLatch]

theorem SameTimer.running : timerRunning x c = timerRunning x d := by
  rw [timerRunning, h.reads _ (timerOwns_cr x), timerRunning]

theorem SameTimer.singleShot : timerSingleShot x c = timerSingleShot x d := by
  rw [timerSingleShot, h.reads _ (timerOwns_cr x), timerSingleShot]

theorem SameTimer.unmasked : timerUnmasked x c = timerUnmasked x d := by rw [timerUnmasked, h.mask, timerUnmasked]

theorem SameTimer.reachesZero : reachesZero x c = reachesZero x d := by
  rw [Machine.reachesZero, h.running, h.counter, Machine.reachesZero]

theorem SameTimer.signal : timerSignal x c = timerSignal x d := by
  rw [timerSignal, h.reachesZero, h.unmasked, timerSignal]

theorem SameTimer.setRead (i : BitVec 4) (v : Byte) : SameTimer x (c.setRead i v) (d.setRead i v) where
  reads j hj := by rw [setRead_r, setRead_r, read_write, read_write, h.reads j hj]
  latches := h.latches
  mask := h.mask

theorem SameTimer.setLatch (i : BitVec 4) (v : Byte) : SameTimer x (c.setLatch i v) (d.setLatch i v) where
  reads := h.reads
  latches j hj := by rw [setLatch_w, setLatch_w, read_write, read_write, h.latches j hj]
  mask := by rw [setLatch_w, setLatch_w, read_write, read_write, h.mask]

theorem SameTimer.countDown : SameTimer x (countDown x c) (countDown x d) := by
  rw [Machine.countDown, Machine.countDown, h.counter]
  exact (h.setRead _ _).setRead _ _

/-- The flags may differ: the ICR is no timer's own register. -/
theorem SameTimer.underflowFlags : SameTimer x (underflowFlags x c) (underflowFlags x d) where
  reads j hj := by rw [underflowFlags_read x c hj.ne_icr, underflowFlags_read x d hj.ne_icr, h.reads j hj]
  latches j hj := by rw [underflowFlags_w, underflowFlags_w, h.latches j hj]
  mask := by rw [underflowFlags_w, underflowFlags_w, h.mask]

theorem SameTimer.stopTimer : SameTimer x (stopTimer x c) (stopTimer x d) := by
  rw [Machine.stopTimer, Machine.stopTimer, h.reads _ (timerOwns_cr x), h.latches _ (timerOwns_cr x)]
  exact (h.setRead _ _).setLatch _ _

theorem SameTimer.loadTimer : SameTimer x (loadTimer x c) (loadTimer x d) := by
  rw [Machine.loadTimer, Machine.loadTimer, h.latches _ (timerOwns_lo x), h.latches _ (timerOwns_hi x)]
  exact (h.setRead _ _).setRead _ _

theorem SameTimer.underflow : SameTimer x (underflow x c) (underflow x d) := by
  rw [Machine.underflow, Machine.underflow, h.singleShot]
  split
  · exact h.underflowFlags.stopTimer
  · exact h.underflowFlags.loadTimer

theorem SameTimer.tick : SameTimer x (timerTick x c) (timerTick x d) := by
  rw [timerTick, timerTick, h.running, h.reachesZero]
  split
  · split
    · exact h.countDown.underflow
    · exact h.countDown
  · exact h

end Same

/-! ### What a tick leaves of the other timer -/

theorem timerTick_read_unowned (c : Cia) (hj : ¬ TimerOwns y j) (hd : j ≠ 0xD#4) :
    (timerTick y c).r.read j = c.r.read j :=
  timerTick_read y c (fun e => hj (.inl e)) (fun e => hj (.inr (.inl e))) (fun e => hj (.inr (.inr e))) hd

theorem timerTick_latch_unowned (c : Cia) (hj : ¬ TimerOwns y j) : (timerTick y c).w.read j = c.w.read j :=
  timerTick_latch y c (fun e => hj (.inr (.inr e)))

theorem timerTick_mask (x : TimerId) (c : Cia) : (timerTick x c).w.read 0xD#4 = c.w.read 0xD#4 :=
  timerTick_latch_unowned c (fun h => h.ne_icr rfl)

theorem timerLatch_timerTick (x : TimerId) (c : Cia) : timerLatch x (timerTick x c) = timerLatch x c := by
  obtain ⟨-, hl, hh, -⟩ := timer_indices_distinct x
  rw [timerLatch, timerTick_latch x c hl, timerTick_latch x c hh, timerLatch]

theorem sameTimer_tick_other (hxy : x ≠ y) (c : Cia) : SameTimer x (timerTick y c) c where
  reads _ hj := timerTick_read_unowned c (hj.not_other hxy) hj.ne_icr
  latches _ hj := timerTick_latch_unowned c (hj.not_other hxy)
  mask := timerTick_mask y c

/-! ### Both ticks -/

/-- The flags of a tick are those it found, ORed with the timer's own two bits if it signals. -/
theorem timerTick_icr_or (x : TimerId) (c : Cia) :
    (timerTick x c).r.read 0xD#4 = c.r.read 0xD#4 ||| if timerSignal x c then icrRaise (timerBit x) 0x00#8 else 0x00#8 := by
  rw [timerTick_icr]
  split
  · rw [icrRaise, icrRaise, BitVec.zero_or]
  · rw [BitVec.or_zero]

theorem timerTick_timerTick_icr (hxy : x ≠ y) (c : Cia) :
    (timerTick y (timerTick x c)).r.read 0xD#4 = (timerTick x c).r.read 0xD#4 ||| (timerTick y c).r.read 0xD#4 := by
  rw [timerTick_icr_or y, (sameTimer_tick_other hxy.symm c).signal, timerTick_icr_or y, timerTick_icr_or x]
  ac_rfl

/-- A timer ticked first or last ends alike. -/
theorem sameTimer_tick_comm (hxy : x ≠ y) (c : Cia) :
    SameTimer x (timerTick y (timerTick x c)) (timerTick x (timerTick y c)) :=
  (sameTimer_tick_other hxy (timerTick x c)).trans (sameTimer_tick_other hxy c).tick.symm

theorem timerTick_comm_read (hxy : x ≠ y) (c : Cia) (j : BitVec 4) :
    (timerTick y (timerTick x c)).r.read j = (timerTick x (timerTick y c)).r.read j := by
  by_cases hx : TimerOwns x j
  · exact (sameTimer_tick_comm hxy c).reads j hx
  by_cases hy : TimerOwns y j
  · exact ((sameTimer_tick_comm hxy.symm c).reads j hy).symm
  by_cases hd : j = 0xD#4
  · rw [hd, timerTick_timerTick_icr hxy, timerTick_timerTick_icr hxy.symm, BitVec.or_comm]
  · rw [timerTick_read_unowned _ hy hd, timerTick_read_unowned _ hx hd, timerTick_read_unowned _ hx hd,
      timerTick_read_unowned _ hy hd]

theorem timerTick_comm_latch (hxy : x ≠ y) (c : Cia) (j : BitVec 4) :
    (timerTick y (timerTick x c)).w.read j = (timerTick x (timerTick y c)).w.read j := by
  by_cases hx : TimerOwns x j
  · exact (sameTimer_tick_comm hxy c).latches j hx
  by_cases hy : TimerOwns y j
  · exact ((sameTimer_tick_comm hxy.symm c).latches j hy).symm
  rw [timerTick_latch_unowned _ hy, timerTick_latch_unowned _ hx, timerTick_latch_unowned _ hx, timerTick_latch_unowned _ hy]

theorem timerTick_comm (hxy : x ≠ y) (c : Cia) : timerTick y (timerTick x c) = timerTick x (timerTick y c) :=
  cia_ext (regFile_ext _ _ (timerTick_comm_read hxy c)) (regFile_ext _ _ (timerTick_comm_latch hxy c))

/-! ### The CIA clock -/

/-- The clock does to each timer what its own tick does. -/
theorem sameTimer_ciaTick (x : TimerId) (c : Cia) : SameTimer x (ciaTick c) (timerTick x c) := by
  cases x with
  | a => exact sameTimer_tick_other (by decide) (timerTick .a c)
  | b => exact (sameTimer_tick_other (by decide) c).tick

theorem ciaSignal_eq (c : Cia) : ciaSignal c = (timerSignal .a c || timerSignal .b c) := by
  rw [ciaSignal, (sameTimer_tick_other (by decide) c).signal]

/-- Settles O43: each timer by its own tick, the flags ORed, the ticks in either order, and the CIA alone written. -/
theorem ciaClockTicksBothTimers : Obligations.CiaClockTicksBothTimers := by
  refine ⟨fun c x => ?timers, fun c => ?both, fun k s => ⟨ciaClk_cia_same k s, setCia_restore s k _⟩⟩
  case timers =>
    have h := sameTimer_ciaTick x c
    exact ⟨h.counter, h.latch.trans (timerLatch_timerTick x c), h.reads _ (timerOwns_cr x), h.latches _ (timerOwns_cr x)⟩
  case both =>
    have hab : TimerId.a ≠ TimerId.b := by decide
    exact ⟨timerTick_timerTick_icr hab c, timerTick_comm hab c, ciaSignal_eq c⟩

end Sys2Proof.Machine
end

section
/-! PROOFS. The VIC register operations (42_vic_registers.md R260-R295): an operation's own select word decodes to it, a read drives
one byte, a write stores into the two register sets alone; the bytes that $11 and $19 compute, bit by bit. -/

namespace Sys2Proof.Machine

/-! ### The groups of indices -/

theorem inGroup_of_bounds {lo hi : Nat} {i : BitVec 6} (hlo : lo ≤ i.toNat) (hhi : i.toNat ≤ hi) : inGroup lo hi i = true := by
  simp only [inGroup, hlo, hhi, decide_true, Bool.and_true]

/-- The last group ends at the last index. -/
theorem inGroup_of_unused {i : BitVec 6} (h : 0x2F ≤ i.toNat) : inGroup 0x2F 0x3F i = true :=
  inGroup_of_bounds h (Nat.le_of_lt_succ i.isLt)

/-! ### Frames: a store and a read touch nothing else, so with the register set as it was the state is as it was -/

theorem setVicReg_restore (i : BitVec 6) (v : Byte) (s : State) :
    { setVicReg i v s with vic := { (setVicReg i v s).vic with r := s.vic.r } } = s := rfl

theorem setVicLatch_restore (i : BitVec 6) (v : Byte) (s : State) :
    { setVicLatch i v s with vic := { (setVicLatch i v s).vic with w := s.vic.w } } = s := rfl

theorem setVicReg_read (i j : BitVec 6) (v : Byte) (s : State) :
    (setVicReg i v s).vic.r.read j = if j = i then v else s.vic.r.read j := by
  rw [setVicReg_vic, read_write]

theorem setVicLatch_read (i j : BitVec 6) (v : Byte) (s : State) :
    (setVicLatch i v s).vic.w.read j = if j = i then v else s.vic.w.read j := by
  rw [setVicLatch_vic, read_write]

/-! ### Plain registers -/

/-- Settles O44: each read is the plain read of its register, and a word of the group is the one that encodes it. -/
theorem vicPlainReads : Obligations.VicPlainReads := by
  refine ⟨⟨?sprpos, ?lp, ?spren, ?cr2, ?spryex, ?memptr, ?irqmask, ?sprmisc, ?coll, ?border, ?bg, ?sprcol⟩, fun i s => ?reads⟩
  case sprpos | lp | sprmisc | coll | bg | sprcol =>
    exact fun i hlo hhi => decodeWord_of_encode (inGroup_of_bounds hlo hhi) rfl
  case spren | cr2 | spryex | memptr | irqmask | border => exact decodeWord_of_encode rfl rfl
  case reads => exact ⟨rfl, rfl, rfl, rfl, rfl, rfl, rfl, rfl, rfl, rfl, rfl, rfl⟩

/-- Settles O48: each write is the plain write of its register, and a word of the group is the one that encodes it. -/
theorem vicPlainWrites : Obligations.VicPlainWrites := by
  refine ⟨⟨?sprpos, ?lp, ?spren, ?cr2, ?spryex, ?memptr, ?irqmask, ?sprmisc, ?coll, ?border, ?bg, ?sprcol⟩,
    fun i s ins x hins => ?write⟩
  case sprpos | lp | sprmisc | coll | bg | sprcol =>
    exact fun i hlo hhi => decodeWord_of_encode (inGroup_of_bounds hlo hhi) rfl
  case spren | cr2 | spryex | memptr | irqmask | border => exact decodeWord_of_encode rfl rfl
  case write =>
    have hexec : exec ins s = .next (vicPlainWrite x s) := by
      rcases hins with ⟨rfl, rfl⟩ | ⟨rfl, rfl⟩ | ⟨rfl, rfl⟩ | ⟨rfl, rfl⟩ | ⟨rfl, rfl⟩ | ⟨rfl, rfl⟩ | ⟨rfl, rfl⟩ | ⟨rfl, rfl⟩ |
        ⟨rfl, rfl⟩ | ⟨rfl, rfl⟩ | ⟨rfl, rfl⟩ | ⟨rfl, rfl⟩ <;> rfl
    exact ⟨vicPlainWrite x s, hexec, fun j => setVicReg_read x j s.inp.d s, setVicReg_restore x s.inp.d s⟩

/-- Settles O47: an unused index drives the constant $FF and stores nothing. -/
theorem vicUnusedIndices : Obligations.VicUnusedIndices :=
  ⟨fun _ hi => ⟨decodeWord_of_encode (inGroup_of_unused hi) rfl, decodeWord_of_encode (inGroup_of_unused hi) rfl⟩,
    fun _ _ => ⟨rfl, rfl⟩⟩

/-! ### The scanline and its compare latches, $11 and $12 -/

/-- The bits of $7F are 0 to 6, what $11 keeps read-visible. -/
theorem control_mask_getLsbD : ∀ b < 8, (0x7F#8).getLsbD b = decide (b < 7) := by decide

theorem and_control_mask_getLsbD (d : Byte) {b : Nat} (hb : b < 8) :
    (d &&& 0x7F#8).getLsbD b = (d.getLsbD b && decide (b < 7)) := by
  rw [BitVec.getLsbD_and, control_mask_getLsbD b hb]

theorem topBit_getLsbD : ∀ c : Bool, ∀ b < 8, (BitVec.ofBool c ++ 0#7).getLsbD b = (c && decide (b = 7)) := by decide

/-- Bits 6:0 of the stored byte, and the live bit above them (42_vic_registers.md R263). -/
theorem liveControl_getLsbD (r : Byte) (c : Bool) {b : Nat} (hb : b < 8) :
    ((r &&& 0x7F#8) ||| (BitVec.ofBool c ++ 0#7)).getLsbD b = if b < 7 then r.getLsbD b else c := by
  rw [BitVec.getLsbD_or, and_control_mask_getLsbD r hb, topBit_getLsbD c b hb]
  split
  · next h7 => simp [h7, Nat.ne_of_lt h7]
  · next h7 => simp [show b = 7 by omega]

/-- Settles O45: bit 7 of $11 by its live bit, $12 by the scanline's value. -/
theorem vicLiveRasterReads : Obligations.VicLiveRasterReads := by
  refine ⟨decodeWord_of_encode rfl rfl, decodeWord_of_encode rfl rfl, fun s =>
    ⟨⟨_, rfl, liveControl_getLsbD _ _ (by decide), fun b hb => ?low⟩, ⟨_, rfl, ?raster⟩⟩⟩
  case low => rw [liveControl_getLsbD _ _ (Nat.lt_succ_of_lt hb), if_pos hb]
  case raster => rw [BitVec.extractLsb'_toNat, Nat.shiftRight_zero]

/-- Settles O49: both latches whole, and of $11 its bits 6:0 in the read-visible set too. -/
theorem vicRasterLatchWrites : Obligations.VicRasterLatchWrites := by
  refine ⟨decodeWord_of_encode rfl rfl, decodeWord_of_encode rfl rfl, fun s =>
    ⟨⟨_, rfl, fun j => setVicLatch_read 0x11#6 j s.inp.d s, fun j hj => ?others, ?bit7, fun b hb => ?low, rfl⟩,
      ⟨_, rfl, fun j => setVicLatch_read 0x12#6 j s.inp.d s, setVicLatch_restore 0x12#6 s.inp.d s⟩⟩⟩
  case others => rw [setVicReg_read, if_neg hj, setVicLatch_vic]
  case bit7 => rw [setVicReg_read, if_pos rfl, and_control_mask_getLsbD _ (by decide), decide_eq_false (by decide), Bool.and_false]
  case low =>
    rw [setVicReg_read, if_pos rfl, and_control_mask_getLsbD _ (Nat.lt_succ_of_lt hb), decide_eq_true hb, Bool.and_true]

/-! ### The interrupt flag, $19 -/

/-- Settles O46: the read stores $00 over the flag, so the VIC has no part in the IRQ line after it. -/
theorem vicFlagReadAcknowledges : Obligations.VicFlagReadAcknowledges := by
  refine ⟨decodeWord_of_encode rfl rfl, fun s =>
    ⟨_, rfl, rfl, fun j => setVicReg_read 0x19#6 j 0x00#8 s, ?line, rfl⟩⟩
  case line => simp [irqLine]

/-- The flag bits that a write of d leaves: of bits 0-3 those not written as 1 (42_vic_registers.md R288). -/
def vicFlagsLeft (d flag : Byte) : Byte := flag &&& 0x0F#8 &&& ~~~(d &&& 0x0F#8)

theorem vicFlagWrite_eq (d flag : Byte) :
    vicFlagWrite d flag = vicFlagsLeft d flag ||| if vicFlagsLeft d flag = 0x00#8 then 0x00#8 else 0x80#8 := rfl

/-- The bits of $0F are the four flag bits. -/
theorem vicFlagSources_getLsbD : ∀ b < 8, (0x0F#8).getLsbD b = decide (b < 4) := by decide

theorem vicFlagsLeft_getLsbD (d flag : Byte) {b : Nat} (hb : b < 8) :
    (vicFlagsLeft d flag).getLsbD b = (decide (b < 4) && (flag.getLsbD b && !d.getLsbD b)) := by
  rw [vicFlagsLeft, BitVec.getLsbD_and, BitVec.getLsbD_and, BitVec.getLsbD_not, BitVec.getLsbD_and, vicFlagSources_getLsbD b hb]
  by_cases h4 : b < 4 <;> simp [h4, hb]

theorem vicFlagsLeft_ne_zero_iff (d flag : Byte) :
    vicFlagsLeft d flag ≠ 0x00#8 ↔ ∃ b, b < 4 ∧ (vicFlagsLeft d flag).getLsbD b = true := by
  constructor
  · intro hne
    obtain ⟨b, hbit⟩ := not_forall.mp (mt BitVec.zero_iff_eq_false.mpr hne)
    have hset : (vicFlagsLeft d flag).getLsbD b = true := eq_true_of_ne_false hbit
    have hb : b < 8 := BitVec.lt_of_getLsbD hset
    rw [vicFlagsLeft_getLsbD d flag hb, Bool.and_eq_true, decide_eq_true_eq] at hset
    exact ⟨b, hset.1, eq_true_of_ne_false hbit⟩
  · rintro ⟨b, -, hset⟩ hzero
    rw [hzero, BitVec.getLsbD_zero] at hset
    exact absurd hset (by decide)

/-- Below the aggregate the byte stored is the flags left. -/
theorem vicFlagWrite_getLsbD (d flag : Byte) {b : Nat} (hb : b < 7) :
    (vicFlagWrite d flag).getLsbD b = (vicFlagsLeft d flag).getLsbD b := by
  have haggregate : ∀ b < 7, (0x80#8).getLsbD b = false := by decide
  rw [vicFlagWrite_eq, BitVec.getLsbD_or]
  split
  · rw [BitVec.getLsbD_zero, Bool.or_false]
  · rw [haggregate b hb, Bool.or_false]

/-- The aggregate over them (42_vic_registers.md R288). -/
theorem vicFlagWrite_aggregate (d flag : Byte) :
    (vicFlagWrite d flag).getLsbD 7 = true ↔ vicFlagsLeft d flag ≠ 0x00#8 := by
  rw [vicFlagWrite_eq, BitVec.getLsbD_or, vicFlagsLeft_getLsbD d flag (by decide)]
  split
  · next hzero => simp [hzero]
  · next hne => simp [hne]

/-- Settles O50: bit by bit the flags left, and the aggregate set exactly when some flag is left. -/
theorem vicFlagWriteOneToClear : Obligations.VicFlagWriteOneToClear := by
  refine ⟨decodeWord_of_encode rfl rfl, fun s =>
    ⟨_, rfl, fun b hb => ?flags, fun b hb4 hb7 => ?clear, ?aggregate, fun j hj => ?others, setVicReg_restore 0x19#6 _ s⟩⟩
  case flags =>
    rw [setVicReg_read, if_pos rfl, vicFlagWrite_getLsbD _ _ (by omega), vicFlagsLeft_getLsbD _ _ (by omega), decide_eq_true hb,
      Bool.true_and]
  case clear =>
    rw [setVicReg_read, if_pos rfl, vicFlagWrite_getLsbD _ _ hb7, vicFlagsLeft_getLsbD _ _ (by omega),
      decide_eq_false (Nat.not_lt.mpr hb4), Bool.false_and]
  case aggregate =>
    rw [setVicReg_read, if_pos rfl, vicFlagWrite_aggregate, vicFlagsLeft_ne_zero_iff]
    exact exists_congr fun b => and_congr_right fun hb => by rw [vicFlagWrite_getLsbD _ _ (by omega)]
  case others => rw [setVicReg_read, if_neg hj]

end Sys2Proof.Machine
end

section
/-! PROOFS. The raster counter and compare: a tick within a line and at its end, and the compare target as a number
(43_vic_raster_render.md R300-R302). -/

namespace Sys2Proof.Machine

/-- A tick changes no register but the interrupt flag. -/
theorem vicTick_read {p : VideoParams} {j : BitVec 6} (v : Vic) (h : j ≠ 0x19#6) : (vicTick p v).r.read j = v.r.read j := by
  rcases Nat.lt_or_ge (v.cycle + 1) p.cyclesPerLine with hw | he
  · rw [vicTick_within hw]
  · rw [vicTick_lineEnd he, compareRaster_read _ h]
    rfl

theorem vicTick_lineEnd_line {p : VideoParams} {v : Vic} (he : p.cyclesPerLine ≤ v.cycle + 1) (h0 : 2 ≤ p.totalLines)
    (h : p.totalLines ≤ 512) : (vicTick p v).line.toNat = (v.line.toNat + 1) % p.totalLines := by
  rw [vicTick_lineEnd he, compareRaster_line, advanceLine_line v (by omega) h]

/-- Settles O51: within a line the tick counts; at its end `advanceLine` gives the counters and the compare spares all but $19. -/
theorem vicTickCountsLines : Obligations.VicTickCountsLines := by
  refine ⟨fun p v hlo hhi => ⟨vicTick_within, fun he => ⟨?cycle, vicTick_lineEnd_line he hlo hhi, ?latch, fun j => vicTick_read v⟩⟩,
    ⟨Nat.le_add_left 1 _, totalLines_bounds⟩, fun s => ⟨rfl, rfl⟩⟩
  case cycle =>
    rw [vicTick_lineEnd he, compareRaster_cycle]
    rfl
  case latch =>
    rw [vicTick_lineEnd he, compareRaster_w]
    rfl

/-- The compare target as a number: vic.w[$12] + 256 * vic.w[$11][7] (10_state.md R61). -/
theorem rasterTarget_toNat (v : Vic) :
    (rasterTarget v).toNat = (v.w.read 0x12#6).toNat + if (v.w.read 0x11#6).getLsbD 7 then 256 else 0 := by
  rw [rasterTarget, BitVec.toNat_append, ← Nat.shiftLeft_add_eq_or_of_lt (v.w.read 0x12#6).isLt, Nat.add_comm]
  cases (v.w.read 0x11#6).getLsbD 7 with
  | false => rfl
  | true => rfl

theorem rasterMatch_iff (v : Vic) :
    rasterMatch v = true ↔ v.line.toNat = (rasterTarget v).toNat ∧ (v.r.read 0x1A#6).getLsbD 0 = true := by
  rw [rasterMatch, Bool.and_eq_true, beq_iff_eq, BitVec.toNat_inj]

theorem vicTick_flag_within {p : VideoParams} {v : Vic} (hw : v.cycle + 1 < p.cyclesPerLine) :
    (vicTick p v).r.read 0x19#6 = v.r.read 0x19#6 := by
  rw [vicTick_within hw]

/-- The flag after the compare at the beginning of a line (43_vic_raster_render.md R302). -/
theorem vicTick_flag_lineEnd {p : VideoParams} {v : Vic} (he : p.cyclesPerLine ≤ v.cycle + 1) (h0 : 2 ≤ p.totalLines)
    (h : p.totalLines ≤ 512) :
    (vicTick p v).r.read 0x19#6 =
      if (v.line.toNat + 1) % p.totalLines = (rasterTarget v).toNat ∧ (v.r.read 0x1A#6).getLsbD 0 = true
      then vicFlagRaise (v.r.read 0x19#6) else v.r.read 0x19#6 := by
  have hmatch := rasterMatch_iff (advanceLine p v)
  rw [advanceLine_line v (by omega) h] at hmatch
  rw [vicTick_lineEnd he, compareRaster_flag]
  exact if_congr hmatch rfl rfl

/-- Settles O52: the compare at the line's beginning, and none within it; no scanline is a target of TOTAL_LINES or more. -/
theorem rasterInterruptCondition : Obligations.RasterInterruptCondition := by
  intro p v hlo hhi
  rw [← rasterTarget_toNat]
  refine ⟨vicTick_flag_within, fun he => vicTick_flag_lineEnd he hlo hhi, fun hbeyond => ?beyond⟩
  case beyond =>
    rcases Nat.lt_or_ge (v.cycle + 1) p.cyclesPerLine with hw | he
    · exact vicTick_flag_within hw
    · have hline : (v.line.toNat + 1) % p.totalLines < p.totalLines := Nat.mod_lt _ (by omega)
      rw [vicTick_flag_lineEnd he hlo hhi, if_neg]
      rintro ⟨htarget, -⟩
      omega

end Sys2Proof.Machine
end

section
/-! PROOFS. The row that a line's beginning renders: pixel by pixel from the cells, and when there is none
(43_vic_raster_render.md R303, R321, R322). -/

namespace Sys2Proof.Machine

theorem lineVisible_iff (p : VideoParams) (v : Vic) :
    lineVisible p v = true ↔
      (v.r.read 0x11#6).getLsbD 4 = true ∧ p.fbFirstLine ≤ v.line.toNat ∧ v.line.toNat < p.fbFirstLine + 200 := by
  simp only [lineVisible, denBit, Bool.and_eq_true, decide_eq_true_eq, and_assoc]

theorem renderIfVisible_row {p : VideoParams} {v : Vic} {y : Nat} (src : VideoSource) (fb : Memory)
    (hden : (v.r.read 0x11#6).getLsbD 4 = true) (hline : v.line.toNat = p.fbFirstLine + y) (hy : y < 200) :
    renderIfVisible p src v fb = renderRow src y fb := by
  rw [renderIfVisible, if_pos ((lineVisible_iff p v).mpr ⟨hden, by omega, by omega⟩), hline, Nat.add_sub_cancel_left]

theorem renderIfVisible_outside {p : VideoParams} {v : Vic} (src : VideoSource) (fb : Memory)
    (h : (v.r.read 0x11#6).getLsbD 4 = false ∨ v.line.toNat < p.fbFirstLine ∨ p.fbFirstLine + 200 ≤ v.line.toNat) :
    renderIfVisible p src v fb = fb := by
  rw [renderIfVisible, if_neg]
  intro hvisible
  obtain ⟨hden, hfirst, hlast⟩ := (lineVisible_iff p v).mp hvisible
  rcases h with hoff | hbefore | hafter
  · exact Bool.false_ne_true (hoff.symm.trans hden)
  · omega
  · omega

theorem cellPixels_get {v : VideoSource} {n ly px : Nat} (h : px < 8) :
    (cellPixels v n ly)[px]? = some ((cellPixels v n ly)[px]?.getD 0#4) := by
  rw [List.getElem?_eq_getElem (by rw [cellPixels_length]; exact h), Option.getD_some]

/-- Pixel x of a rendered row is pixel x mod 8 of its cell x / 8. -/
theorem pixel_renderRow {src : VideoSource} {fb : Memory} {t : State} {x y : Nat} (ht : t.fb = renderRow src y fb)
    (hfb : fb.wf fbSize = true) (hy : y < 200) (hx : x < 320) :
    (cellPixels src (y / 8 * 40 + x / 8) (y % 8))[x % 8]? = some (pixel t x y) := by
  have hbyte := read_renderRow_inside src hy (show x / 2 < 160 by omega) hfb
  rw [rowBytes_get src y (by omega), ← ht, show x / 2 / 4 = x / 8 by omega] at hbyte
  rw [cellPixels_get (by omega), pixel, ← Option.some.inj hbyte]
  rcases Nat.mod_two_eq_zero_or_one x with heven | hodd
  · rw [if_pos heven, BitVec.extractLsb'_append_eq_left, show 2 * (x / 2 % 4) = x % 8 by omega]
  · rw [if_neg (by omega), BitVec.extractLsb'_append_eq_right, show 2 * (x / 2 % 4) + 1 = x % 8 by omega]

/-- Settles O53: the tick's new line and the DEN it leaves decide between its row and no change. -/
theorem visibleLineRendersItsRow : Obligations.VisibleLineRendersItsRow := by
  refine ⟨fun p src v s t hlo hhi hfb he ht => ?tick, fun s => ?clk⟩
  case tick =>
    have hcontrol : (vicTick p v).r.read 0x11#6 = v.r.read 0x11#6 := vicTick_read v (by decide)
    rw [← vicTick_lineEnd_line he hlo hhi, ← hcontrol]
    refine ⟨fun y hy hden hline => ?row, fun h => ?outside⟩
    case row =>
      rw [renderIfVisible_row src s.fb hden hline hy] at ht
      exact ⟨fun x hx => pixel_renderRow ht hfb hy hx, fun j hj => by rw [ht, read_renderRow_outside src hj]⟩
    case outside => rw [ht, renderIfVisible_outside src s.fb h]
  case clk => simp only [vicClk_fb, lineEnds, decide_eq_true_eq]

end Sys2Proof.Machine
end

section
/-! PROOFS. What a render reads: the bank, the bases of $18 and the nibbles as numbers (43_vic_raster_render.md R310-R315). -/

namespace Sys2Proof.Machine

/-- A field of a byte as a number. -/
theorem field_toNat (v : Byte) (lo len : Nat) : (v.extractLsb' lo len).toNat = v.toNat / 2 ^ lo % 2 ^ len := by
  rw [BitVec.extractLsb'_toNat, Nat.shiftRight_eq_div_pow]

theorem bankBase_eq (c : Cia) : bankBase c = (3 - (c.r.read 0x0#4).toNat % 4) * 0x4000 := by
  rw [bankBase, field_toNat, Nat.pow_zero, Nat.div_one]
  rfl

theorem matrixOff_eq (r : RegFile 6) : matrixOff r = (r.read 0x18#6).toNat / 16 * 0x400 := by
  rw [matrixOff, field_toNat, Nat.mod_eq_of_lt (by have := (r.read 0x18#6).isLt; omega)]
  rfl

theorem charOff_eq (r : RegFile 6) : charOff r = (r.read 0x18#6).toNat / 2 % 8 * 0x800 := by
  rw [charOff, field_toNat]
  rfl

theorem bitmapOff_eq (r : RegFile 6) : bitmapOff r = (r.read 0x18#6).toNat / 8 % 2 * 0x2000 := by
  rw [bitmapOff, field_toNat]
  rfl

/-- The character ROM's window: $1000-$1FFF of the banks $0000 and $8000 (43_vic_raster_render.md R314). -/
def inCharRomWindow (v : VideoSource) (off : Nat) : Prop :=
  (v.bankBase = 0x0000 ∨ v.bankBase = 0x8000) ∧ 0x1000 ≤ off ∧ off ≤ 0x1FFF

theorem vicCharFetch_rom {v : VideoSource} {off : Nat} (h : inCharRomWindow v off) :
    vicCharFetch v off = v.charRom (BitVec.ofNat 12 (off - 0x1000)) := by
  rw [vicCharFetch, if_pos]
  simpa [inCharRomWindow, and_assoc] using h

theorem vicCharFetch_ram {v : VideoSource} {off : Nat} (h : ¬ inCharRomWindow v off) :
    vicCharFetch v off = v.ram.read (v.bankBase + off) := by
  rw [vicCharFetch, if_neg]
  simpa [inCharRomWindow, and_assoc] using h

theorem lowNibble_toNat (v : Byte) : (lowNibble v).toNat = v.toNat % 16 := by
  rw [lowNibble, field_toNat, Nat.pow_zero, Nat.div_one]
  rfl

/-- Settles O54: the bases by their fields of $18 and of port A, a character fetch by its window, the rest as defined. -/
theorem videoAddressesAndFetches : Obligations.VideoAddressesAndFetches :=
  ⟨fun s => ⟨bankBase_eq s.cia2, rfl, rfl, rfl⟩, bankBase_eq, fun r => ⟨matrixOff_eq r, charOff_eq r, bitmapOff_eq r⟩,
    fun _ _ => ⟨rfl, vicCharFetch_rom, vicCharFetch_ram⟩, fun _ _ _ _ => ⟨rfl, rfl, rfl⟩, fun _ _ => lowNibble_toNat _⟩

/-- Settles O59: the largest bases are $3C00, $3800 and $2000. -/
theorem fetchOffsetsStayInTheBank : Obligations.FetchOffsetsStayInTheBank := by
  intro r n code ly hn hcode hly
  have hbyte := (r.read 0x18#6).isLt
  rw [matrixOff_eq, charOff_eq, bitmapOff_eq]
  omega

end Sys2Proof.Machine
end

section
/-! PROOFS. The pixels of a cell in each mode (43_vic_raster_render.md R320, R330-R335): the pixel list of the mode bits, its entry
px, and the colours and bit pairs as numbers. -/

namespace Sys2Proof.Machine

/-! ### The mode bits -/

section Mode

variable {v : VideoSource}

theorem cellPixels_standardText (n ly : Nat) (hecm : (v.r.read 0x11#6).getLsbD 6 = false)
    (hbmm : (v.r.read 0x11#6).getLsbD 5 = false) (hmcm : (v.r.read 0x16#6).getLsbD 4 = false) :
    cellPixels v n ly = standardTextPixels v n ly := by
  simp only [cellPixels, videoMode, hecm, hbmm, hmcm]

theorem cellPixels_multicolourText (n ly : Nat) (hecm : (v.r.read 0x11#6).getLsbD 6 = false)
    (hbmm : (v.r.read 0x11#6).getLsbD 5 = false) (hmcm : (v.r.read 0x16#6).getLsbD 4 = true) :
    cellPixels v n ly = multicolourTextPixels v n ly := by
  simp only [cellPixels, videoMode, hecm, hbmm, hmcm]

theorem cellPixels_extendedText (n ly : Nat) (hecm : (v.r.read 0x11#6).getLsbD 6 = true)
    (hbmm : (v.r.read 0x11#6).getLsbD 5 = false) (hmcm : (v.r.read 0x16#6).getLsbD 4 = false) :
    cellPixels v n ly = extendedTextPixels v n ly := by
  simp only [cellPixels, videoMode, hecm, hbmm, hmcm]

theorem cellPixels_standardBitmap (n ly : Nat) (hecm : (v.r.read 0x11#6).getLsbD 6 = false)
    (hbmm : (v.r.read 0x11#6).getLsbD 5 = true) (hmcm : (v.r.read 0x16#6).getLsbD 4 = false) :
    cellPixels v n ly = standardBitmapPixels v n ly := by
  simp only [cellPixels, videoMode, hecm, hbmm, hmcm]

theorem cellPixels_multicolourBitmap (n ly : Nat) (hecm : (v.r.read 0x11#6).getLsbD 6 = false)
    (hbmm : (v.r.read 0x11#6).getLsbD 5 = true) (hmcm : (v.r.read 0x16#6).getLsbD 4 = true) :
    cellPixels v n ly = multicolourBitmapPixels v n ly := by
  simp only [cellPixels, videoMode, hecm, hbmm, hmcm]

/-- ECM excludes the other two (43_vic_raster_render.md R335). -/
theorem cellPixels_invalid (n ly : Nat) (hecm : (v.r.read 0x11#6).getLsbD 6 = true)
    (hother : (v.r.read 0x11#6).getLsbD 5 = true ∨ (v.r.read 0x16#6).getLsbD 4 = true) :
    cellPixels v n ly = List.replicate 8 0#4 := by
  have hmode : videoMode v.r = .invalid := by
    rcases hother with hbmm | hmcm
    · cases hmcm : (v.r.read 0x16#6).getLsbD 4 <;> simp only [videoMode, hecm, hbmm, hmcm]
    · cases hbmm : (v.r.read 0x11#6).getLsbD 5 <;> simp only [videoMode, hecm, hbmm, hmcm]
  simp only [cellPixels, hmode]

theorem rowBytes_invalid (y : Nat) (hecm : (v.r.read 0x11#6).getLsbD 6 = true)
    (hother : (v.r.read 0x11#6).getLsbD 5 = true ∨ (v.r.read 0x16#6).getLsbD 4 = true) :
    rowBytes v y = List.replicate 160 0x00#8 := by
  simp only [rowBytes, cellPixels_invalid _ _ hecm hother]
  decide

end Mode

/-! ### Colours and bit pairs as numbers -/

theorem field_eq_ofNat (v : Byte) (lo len : Nat) : v.extractLsb' lo len = BitVec.ofNat len (v.toNat / 2 ^ lo) :=
  BitVec.eq_of_toNat_eq (by rw [field_toNat, BitVec.toNat_ofNat])

theorem highNibble_eq_ofNat (v : Byte) : highNibble v = BitVec.ofNat 4 (v.toNat / 16) := field_eq_ofNat v 4 4

theorem lowNibble_eq_ofNat (v : Byte) : lowNibble v = BitVec.ofNat 4 v.toNat := by
  rw [lowNibble, field_eq_ofNat, Nat.pow_zero, Nat.div_one]

theorem lowNibble_eq_setWidth (v : Byte) : lowNibble v = v.setWidth 4 :=
  BitVec.eq_of_toNat_eq (by rw [lowNibble_toNat, BitVec.toNat_setWidth])

theorem background_index : ∀ j : BitVec 2, 0x21#6 + j.setWidth 6 = BitVec.ofNat 6 (0x21 + j.toNat) := by decide

/-- Background j reads register $21 + j (10_state.md R67). -/
theorem background_eq (r : RegFile 6) (j : BitVec 2) :
    background r j = (r.read (BitVec.ofNat 6 (0x21 + j.toNat))).setWidth 4 := by
  rw [background, lowNibble_eq_setWidth, background_index]

/-- The bit pair of a double-width pixel (43_vic_raster_render.md R331). -/
theorem bitPair_toNat (bits : Byte) (px : Nat) :
    (bits.extractLsb' (6 - 2 * (px / 2)) 2).toNat = bits.toNat / 4 ^ (3 - px / 2) % 4 := by
  rw [field_toNat, show 6 - 2 * (px / 2) = 2 * (3 - px / 2) by omega, Nat.pow_mul]
  rfl

theorem bitPair_cases : ∀ pair : BitVec 2, pair = 0#2 ∨ pair = 1#2 ∨ pair = 2#2 ∨ pair = 3#2 := by decide

theorem pickColour_toNat (c0 c1 c2 c3 : Colour) (pair : BitVec 2) :
    pickColour c0 c1 c2 c3 pair =
      if pair.toNat = 0 then c0 else if pair.toNat = 1 then c1 else if pair.toNat = 2 then c2 else c3 := by
  rcases bitPair_cases pair with rfl | rfl | rfl | rfl <;> rfl

/-- The choice of multicolour text: a background, or for pair 3 the foreground. -/
theorem pickColour_background (r : RegFile 6) (c : Colour) (pair : BitVec 2) :
    pickColour (background r 0#2) (background r 1#2) (background r 2#2) c pair =
      if pair.toNat = 3 then c else background r pair := by
  rcases bitPair_cases pair with rfl | rfl | rfl | rfl <;> rfl

/-- The shape of an extended-colour code is its value modulo 64 (43_vic_raster_render.md R332). -/
theorem shape_toNat (code : Byte) : (code &&& 0x3F#8).toNat = code.toNat % 64 := by
  rw [BitVec.toNat_and]
  exact Nat.and_two_pow_sub_one_eq_mod code.toNat 6

/-- The top two bits of a code. -/
theorem topPair_toNat (code : Byte) : (code.extractLsb' 6 2).toNat = code.toNat / 64 := by
  rw [field_toNat, Nat.mod_eq_of_lt (by have := code.isLt; omega)]
  rfl

/-! ### The modes -/

/-- Settles O55: the pixel list of each text mode at px, its backgrounds by register number. -/
theorem textModePixels : Obligations.TextModePixels := by
  intro v n ly px hpx code bits pair bg ecm bmm mcm
  refine ⟨fun hecm hbmm hmcm => ?standard, fun hecm hbmm hmcm hhires => ?hires, fun hecm hbmm hmcm hmulti => ?multicolour,
    fun hecm hbmm hmcm => ?extended⟩
  case standard =>
    rw [cellPixels_standardText n ly hecm hbmm hmcm, standardTextPixels, hiresPixels_get _ _ _ hpx, background_eq]
    rfl
  case hires =>
    rw [cellPixels_multicolourText n ly hecm hbmm hmcm, multicolourTextPixels, if_neg (ne_true_of_eq_false hhires),
      hiresPixels_get _ _ _ hpx, background_eq]
    rfl
  case multicolour =>
    rw [cellPixels_multicolourText n ly hecm hbmm hmcm, multicolourTextPixels, if_pos hmulti, multiPixels_get _ _ _ _ _ hpx,
      pickColour_background, background_eq, bitPair_toNat]
    rfl
  case extended =>
    rw [cellPixels_extendedText n ly hecm hbmm hmcm, extendedTextPixels, hiresPixels_get _ _ _ hpx, background_eq, shape_toNat,
      topPair_toNat]
    rfl

/-- Settles O56: the pixel list of each bitmap mode at px, the screen byte's nibbles as numbers; colour 0 throughout else. -/
theorem bitmapAndInvalidModePixels : Obligations.BitmapAndInvalidModePixels := by
  intro v n ly px hpx bits sc pair ecm bmm mcm
  refine ⟨fun hecm hbmm hmcm => ?standard, fun hecm hbmm hmcm => ?multicolour,
    fun hecm hother => ⟨?pixel, rowBytes_invalid n hecm hother⟩⟩
  case standard =>
    rw [cellPixels_standardBitmap n ly hecm hbmm hmcm, standardBitmapPixels, hiresPixels_get _ _ _ hpx, highNibble_eq_ofNat,
      lowNibble_eq_ofNat, apply_ite (BitVec.ofNat 4)]
    rfl
  case multicolour =>
    rw [cellPixels_multicolourBitmap n ly hecm hbmm hmcm, multicolourBitmapPixels, multiPixels_get _ _ _ _ _ hpx, pickColour_toNat,
      bitPair_toNat, background_eq, highNibble_eq_ofNat, lowNibble_eq_ofNat]
    rfl
  case pixel => rw [cellPixels_invalid n ly hecm hother, List.getElem?_replicate_of_lt hpx]

end Sys2Proof.Machine
end

section
/-! PROOFS. The bus cycles that reach no register: a word decodes to the operation of its address's target, a read drives one byte, a
write stores D in RAM (44_bus_arbiter.md R360, R364-R370, R374-R376). -/

namespace Sys2Proof.Machine

/-! ### The decode of a bus cycle -/

theorem decodeWord_read {t : Target} {m : BitVec 3} {a : Addr} (ht : readTarget m a = some t) :
    decodeWord (.bus (busWord true m a)) = .ok (readInstr t m a) :=
  decodeWord_of_encode (encode_readInstr ht).1 (encode_readInstr ht).2

theorem decodeWord_write {t : Target} {m : BitVec 3} {a : Addr} (ht : readTarget m a = some t) :
    decodeWord (.bus (busWord false m a)) = .ok (writeInstr t m a) :=
  decodeWord_of_encode (encode_writeInstr ht).1 (encode_writeInstr ht).2

/-! ### Reads -/

/-- Settles O19: the answer of each is the RAM byte at A, and the word is decoded by its target. -/
theorem busReadsOfRam : Obligations.BusReadsOfRam :=
  ⟨fun _ _ _ => ⟨rfl, rfl, rfl⟩, fun _ _ => ⟨decodeWord_read, decodeWord_read, decodeWord_read⟩⟩

/-- Settles O21: the answer is the input `sid_read`. -/
theorem busReadOfSid : Obligations.BusReadOfSid := fun _ _ _ => ⟨rfl, decodeWord_read⟩

/-- Each ROM answers from the start of its region on (20_memory.md R110). -/
theorem romStart_le_of_readTarget {m : BitVec 3} {a : Addr} :
    (readTarget m a = some .char → 0xD000 ≤ a.toNat) ∧ (readTarget m a = some .basic → 0xA000 ≤ a.toNat) ∧
      (readTarget m a = some .kernal → 0xE000 ≤ a.toNat) := by
  simp only [readTarget, ite_eq_iff, Option.some.injEq, reduceCtorEq, and_false, false_or, or_false, and_true, Bool.or_eq_true,
    Bool.and_eq_true, decide_eq_true_eq]
  refine ⟨?_, ?_, ?_⟩ <;> omega

/-- The low bits of an address are its distance from a region's start that is a multiple of the ROM's size (20_memory.md R109). -/
theorem romOffset12_eq_sub {a : Addr} (h : 0xD000 ≤ a.toNat) : romOffset12 a = BitVec.ofNat 12 (a.toNat - 0xD000) := by
  apply BitVec.eq_of_toNat_eq
  simp only [romOffset12, BitVec.extractLsb'_toNat, BitVec.toNat_ofNat, Nat.shiftRight_zero]
  omega

theorem romOffset13_eq_sub {a : Addr} {start : Nat} (h : start ≤ a.toNat) (hstart : 2 ^ 13 ∣ start) :
    romOffset13 a = BitVec.ofNat 13 (a.toNat - start) := by
  apply BitVec.eq_of_toNat_eq
  simp only [romOffset13, BitVec.extractLsb'_toNat, BitVec.toNat_ofNat, Nat.shiftRight_zero]
  omega

/-- Settles O20: the low bits that select the ROM byte are the distance from the region's start. -/
theorem busReadsOfRom : Obligations.BusReadsOfRom := by
  intro m a s
  obtain ⟨hchar, hbasic, hkernal⟩ := romStart_le_of_readTarget (m := m) (a := a)
  refine ⟨fun ht => ⟨decodeWord_read ht, ?char⟩, fun ht => ⟨decodeWord_read ht, ?basic⟩,
    fun ht => ⟨decodeWord_read ht, ?kernal⟩⟩
  case char => rw [← romOffset12_eq_sub (hchar ht)]; rfl
  case basic => rw [← romOffset13_eq_sub (hbasic ht) (by decide)]; rfl
  case kernal => rw [← romOffset13_eq_sub (hkernal ht) (by decide)]; rfl

/-! ### Writes -/

/-- RAM after D is stored at A. -/
theorem storeRam_read {a : Addr} {s : State} (hwf : s.ram.wf ramSize = true) :
    (storeRam a s).ram.read a.toNat = s.inp.d ∧ ∀ b, b ≠ a.toNat → (storeRam a s).ram.read b = s.ram.read b :=
  ⟨read_write_eq _ hwf, fun _ hb => read_write_ne _ hb⟩

/-- Settles O25: each of the three is the store of D and nothing more. -/
theorem busWritesOfRam : Obligations.BusWritesOfRam := by
  refine ⟨fun m a => ⟨fun hplain => decodeWord_of_encode hplain rfl, decodeWord_write, decodeWord_write⟩,
    fun m a s hwf i hi => ?_⟩
  have hexec : exec i s = .next (storeRam a (openCycle s)) := by
    rcases hi with rfl | rfl | rfl <;> rfl
  obtain ⟨hsame, hother⟩ := storeRam_read (a := a) (s := openCycle s) hwf
  exact ⟨_, hexec, hsame, hother, rfl, rfl⟩

/-- Settles O26: the store of D in RAM, then (A, D) for the SID. -/
theorem busWriteOfSid : Obligations.BusWriteOfSid := by
  refine fun m a s => ⟨decodeWord_write, fun hwf => ?_⟩
  obtain ⟨hsame, hother⟩ := storeRam_read (a := a) (s := openCycle s) hwf
  exact ⟨_, rfl, rfl, hsame, hother, rfl⟩

end Sys2Proof.Machine
end

section
/-! PROOFS. The stages of a cycle run the very meanings that exec gives the decoded operations: a CLK the BUS row's, a device window the
CIA or VIC row's (30_encoding.md R142, 44_bus_arbiter.md R350, R353). -/

namespace Sys2Proof.Machine

theorem runBus_eq_exec (op : BusOp) (m : BitVec 3) (a : Addr) (s : State) : runBus op m a s = exec (op.instr m a) s := by
  cases op <;> rfl

theorem runVic_eq_exec (op : VicOp) (i : BitVec 6) (s : State) : runVic op i s = exec (op.instr i) s := by
  cases op <;> rfl

theorem runCia_eq_exec (op : CiaOp) (k : CiaId) (s : State) : runCia op k s = exec (op.instr k) s := by
  cases op <;> rfl

/-! ### The bus cycle of a CLK -/

theorem route_eq_exec {w : BitVec 20} {i : Instr} (h : decodeWord (.bus w) = .ok i) (s : State) : route w s = exec i s := by
  obtain ⟨op, hop⟩ := Option.isSome_iff_exists.mp (lookup_busRows_isSome w)
  obtain rfl := Except.ok.inj ((decodeWord_bus hop).symm.trans h)
  simp only [route, hop, runBus_eq_exec]

/-- Settles O8: the ticked state is `tickDevices`, and the word is that of the CLK, whose mode no tick changes. -/
theorem clkRunsDecodedCycle : Obligations.ClkRunsDecodedCycle := by
  rintro s i ⟨he, hr⟩ hdecode
  obtain ⟨t, hroute, -, hclk⟩ := execClk_normal he hr
  exact ⟨t, (route_eq_exec hdecode _).symm.trans hroute, hclk⟩

/-! ### The register access of a bus cycle -/

theorem vicAccess_eq_exec {rw : Bool} {a : Addr} {i : Instr} (h : decodeWord (.vic (vicWord rw (BitVec.ofNat 6 a.toNat))) = .ok i)
    (s : State) : vicAccess rw a s = exec i s := by
  rw [ofNat_eq_vicIndexOf] at h
  obtain ⟨op, hop⟩ := Option.isSome_iff_exists.mp (lookup_vicRows_isSome (vicWord rw (vicIndexOf a)))
  obtain rfl := Except.ok.inj ((decodeWord_vic hop).symm.trans h)
  simp only [vicAccess, hop, runVic_eq_exec, vicIndex_vicWord]

theorem ciaAccess_eq_exec {k : CiaId} {rw : Bool} {a : Addr} {i : Instr}
    (h : decodeWord (.cia (ciaWord k rw (BitVec.ofNat 4 a.toNat))) = .ok i) (s : State) : ciaAccess k rw a s = exec i s := by
  rw [ofNat_eq_ciaIndex] at h
  obtain ⟨op, hop⟩ := Option.isSome_iff_exists.mp (lookup_ciaRows_isSome (ciaWord k rw (ciaIndex a)))
  obtain rfl := Except.ok.inj ((decodeWord_cia hop).symm.trans h)
  simp only [ciaAccess, hop, runCia_eq_exec, ciaInst_ciaWord]

theorem vicAccess_runs_row {rw : Bool} {a : Addr} {i : Instr} (h : decodeWord (.vic (vicWord rw (BitVec.ofNat 6 a.toNat))) = .ok i)
    (s : State) : ∃ t, vicAccess rw a s = .next t ∧ exec i s = .next t := by
  obtain ⟨t, ht, -⟩ := vicAccess_frame rw a s
  exact ⟨t, ht, (vicAccess_eq_exec h s).symm.trans ht⟩

theorem ciaAccess_runs_row {k : CiaId} {rw : Bool} {a : Addr} {i : Instr}
    (h : decodeWord (.cia (ciaWord k rw (BitVec.ofNat 4 a.toNat))) = .ok i) (s : State) :
    ∃ t, ciaAccess k rw a s = .next t ∧ exec i s = .next t := by
  obtain ⟨t, ht, -⟩ := ciaAccess_frame k rw a s
  exact ⟨t, ht, (ciaAccess_eq_exec h s).symm.trans ht⟩

/-- Settles O27: a read is the access on the cycle's start, a write the access after the store. -/
theorem busAccessOfVicRunsItsRow : Obligations.BusAccessOfVicRunsItsRow :=
  fun _ a s _ => ⟨fun h => vicAccess_runs_row h (undriven s), fun h => vicAccess_runs_row h (written a s)⟩

/-- Settles O28: of either CIA too, a read is the access on the cycle's start, a write the access after the store. -/
theorem busAccessOfCiaRunsItsRow : Obligations.BusAccessOfCiaRunsItsRow :=
  fun _ a s _ =>
    ⟨fun h => ciaAccess_runs_row h (undriven s), fun h => ciaAccess_runs_row h (undriven s),
      fun h => ciaAccess_runs_row h (written a s), fun h => ciaAccess_runs_row h (written a s)⟩

end Sys2Proof.Machine
end

section
/-! PROOFS. The row that a device's select word selects is the word's own: it encodes as that word, so its direction and its register
are the word's. From this, what a read of any register of a device drives, and that of the registers it can change only the interrupt
flags it acknowledges (41_cia_registers.md R190, R209, 42_vic_registers.md R260, R270, 44_bus_arbiter.md R361-R363). -/

namespace Sys2Proof.Machine

/-! ### The row of a select word -/

theorem ciaWord_read : ∀ (k : CiaId) (rw : Bool) (i : BitVec 4), (ciaWord k rw i).getLsbD 4 = rw
  | .cia1 => by decide
  | .cia2 => by decide

theorem ciaWord_index : ∀ (k : CiaId) (rw : Bool) (i : BitVec 4), (ciaWord k rw i).extractLsb' 0 4 = i
  | .cia1 => by decide
  | .cia2 => by decide

theorem vicWord_read : ∀ (rw : Bool) (i : BitVec 6), (vicWord rw i).getLsbD 6 = rw := by decide

/-- A CIA select word is made of its instance, direction and index (30_encoding.md R143). -/
theorem ciaWord_inj {k l : CiaId} {rw rw' : Bool} {i j : BitVec 4} (h : CodeWord.cia (ciaWord k rw i) = .cia (ciaWord l rw' j)) :
    k = l ∧ rw = rw' ∧ i = j := by
  have hword := CodeWord.cia.inj h
  exact ⟨by simpa using congrArg ciaInst hword, by simpa only [ciaWord_read] using congrArg (·.getLsbD 4) hword,
    by simpa only [ciaWord_index] using congrArg (·.extractLsb' 0 4) hword⟩

/-- A VIC select word is made of its direction and index (30_encoding.md R144). -/
theorem vicWord_inj {rw rw' : Bool} {i j : BitVec 6} (h : CodeWord.vic (vicWord rw i) = .vic (vicWord rw' j)) :
    rw = rw' ∧ i = j := by
  have hword := CodeWord.vic.inj h
  exact ⟨by simpa only [vicWord_read] using congrArg (·.getLsbD 6) hword, by simpa using congrArg vicIndex hword⟩

/-- A CIA row looked up by a select word encodes as that word. -/
theorem encode_of_lookup_ciaRows {k : CiaId} {rw : Bool} {i : BitVec 4} {op : CiaOp}
    (h : lookupRow ciaRows (ciaWord k rw i) = some op) : encode (op.instr k) = .cia (ciaWord k rw i) := by
  obtain ⟨r, hr, hm, rfl⟩ := exists_row_of_lookupRow h
  simpa using (encode_ciaRow r hr _ hm).2

/-- A VIC row looked up by a select word admits its index and encodes as that word. -/
theorem encode_of_lookup_vicRows {rw : Bool} {i : BitVec 6} {op : VicOp} (h : lookupRow vicRows (vicWord rw i) = some op) :
    (op.instr i).wellFormed = true ∧ encode (op.instr i) = .vic (vicWord rw i) := by
  obtain ⟨r, hr, hm, rfl⟩ := exists_row_of_lookupRow h
  simpa using encode_vicRow r hr _ hm

/-! ### A read of a CIA -/

/-- The byte that a read of register i of CIA k drives (41_cia_registers.md R190). -/
def ciaReadByte (k : CiaId) (i : BitVec 4) (s : State) : Byte :=
  match k with
  | .cia1 =>
    if i = 0x0#4 then joyValue Config.joyIdle s.inp.joy
    else if i = 0x1#4 then keyScan s.inp.keys (s.cia1.r.read 0x0#4)
    else s.cia1.r.read i
  | .cia2 => s.cia2.r.read i

/-- A CIA after a read of its register i: the flags are acknowledged when they are what is read (41_cia_registers.md R209). -/
def ciaAfterRead (i : BitVec 4) (c : Cia) : Cia := if i = 0xD#4 then c.setRead 0xD#4 0x00#8 else c

/-- The row that a read's select word selects drives that byte, with that acknowledgment. -/
theorem runCia_read {op : CiaOp} {k : CiaId} {i : BitVec 4} (h : lookupRow ciaRows (ciaWord k true i) = some op) (s : State) :
    runCia op k s = .next (answer (ciaReadByte k i s) (s.setCia k (ciaAfterRead i (s.cia k)))) := by
  have hword := encode_of_lookup_ciaRows h
  cases op
  case rdPra1 | rdPra2 | rdPrb1 | rdPrb2 =>
    obtain ⟨rfl, -, rfl⟩ := ciaWord_inj hword
    rfl
  case rdDdra | rdDdrb | rdTalo | rdTahi | rdTblo | rdTbhi | rdTod10 | rdTodsec | rdTodmin | rdTodhr
    | rdSdr | rdIcr | rdCra | rdCrb =>
    obtain ⟨-, -, rfl⟩ := ciaWord_inj hword
    cases k <;> rfl
  case wrPra | wrPrb | wrDdra | wrDdrb | wrTalo | wrTahi | wrTblo | wrTbhi | wrTod10 | wrTodsec | wrTodmin | wrTodhr | wrSdr
    | wrIcr | wrCra | wrCrb =>
    obtain ⟨-, hdirection, -⟩ := ciaWord_inj hword
    cases hdirection

theorem ciaAccess_read (k : CiaId) (a : Addr) (s : State) :
    ciaAccess k true a s =
      .next (answer (ciaReadByte k (ciaIndex a) s) (s.setCia k (ciaAfterRead (ciaIndex a) (s.cia k)))) := by
  obtain ⟨op, hop⟩ := Option.isSome_iff_exists.mp (lookup_ciaRows_isSome (ciaWord k true (ciaIndex a)))
  simp only [ciaAccess, hop, runCia_read hop]

@[simp] theorem ciaAfterRead_w (i : BitVec 4) (c : Cia) : (ciaAfterRead i c).w = c.w := by
  unfold ciaAfterRead
  split <;> rfl

theorem ciaAfterRead_read (i j : BitVec 4) (c : Cia) :
    (ciaAfterRead i c).r.read j = if i = 0xD#4 ∧ j = 0xD#4 then 0x00#8 else c.r.read j := by
  unfold ciaAfterRead
  split
  · next hi => simp only [setRead_r, read_write, hi, true_and]
  · next hi => simp only [hi, false_and, if_false]

theorem ciaIndex_eq_iff (a : Addr) (i : BitVec 4) : ciaIndex a = i ↔ a.toNat % 16 = i.toNat := by
  rw [← ciaIndex_toNat, BitVec.toNat_inj]

/-- The bus cycle of a CIA read (44_bus_arbiter.md R361, R362). -/
theorem busReadOfCia (k : CiaId) (a : Addr) (s : State) :
    ∃ t, ciaAccess k true a (openCycle s) = .next t ∧
      t.out = { s.out with sidWr := none, dout := some (ciaReadByte k (ciaIndex a) s) } ∧
      (t.cia k).r.read 0xD#4 = (if a.toNat % 16 = 0xD then 0x00#8 else (s.cia k).r.read 0xD#4) ∧
      (∀ j, j ≠ 0xD#4 → (t.cia k).r.read j = (s.cia k).r.read j) ∧ (t.cia k).w = (s.cia k).w ∧
      { t.setCia k (s.cia k) with out := s.out } = s := by
  refine ⟨_, ciaAccess_read k a (openCycle s), ?out, ?flags, fun j hj => ?others, ?latch, ?frame⟩
  case out => cases k <;> rfl
  case flags => simp [ciaAfterRead_read, ciaIndex_eq_iff]
  case others => simp [ciaAfterRead_read, hj]
  case latch => simp
  case frame => cases k <;> rfl

theorem ciaReadByte_cia1 (a : Addr) (s : State) :
    ciaReadByte .cia1 (ciaIndex a) s =
      if a.toNat % 16 = 0 then joyValue Config.joyIdle s.inp.joy
      else if a.toNat % 16 = 1 then keyScan s.inp.keys (s.cia1.r.read 0x0#4)
      else s.cia1.r.read (BitVec.ofNat 4 a.toNat) := by
  simp only [ciaReadByte, ciaIndex_eq_iff, ofNat_eq_ciaIndex, BitVec.toNat_ofNat]

/-- Settles O23: the read of CIA1, whose ports are live. -/
theorem busReadOfCia1 : Obligations.BusReadOfCia1 := by
  refine fun m a s => ⟨decodeWord_read, ?_⟩
  rw [← ciaReadByte_cia1]
  exact busReadOfCia .cia1 a s

/-- Settles O24: the read of CIA2, whose every register answers from the read view. -/
theorem busReadOfCia2 : Obligations.BusReadOfCia2 := by
  refine fun m a s => ⟨decodeWord_read, ?_⟩
  rw [ofNat_eq_ciaIndex]
  exact busReadOfCia .cia2 a s

/-! ### A read of the VIC -/

/-- The byte that a read of register i of the VIC drives (42_vic_registers.md R260). -/
def vicReadByte (i : BitVec 6) (v : Vic) : Byte :=
  if i = 0x11#6 then (v.r.read 0x11#6 &&& 0x7F#8) ||| (BitVec.ofBool (v.line.getLsbD 8) ++ 0#7)
  else if i = 0x12#6 then v.line.extractLsb' 0 8
  else if 0x2F ≤ i.toNat then 0xFF#8
  else v.r.read i

/-- The state after the VIC gives its register i: the flag is acknowledged when it is what is read (42_vic_registers.md R270). -/
def vicAfterRead (i : BitVec 6) (s : State) : State := if i = 0x19#6 then setVicReg 0x19#6 0x00#8 s else s

/-- An index without a register is none of the registers. -/
theorem ne_of_unused {i j : BitVec 6} (hi : 0x2F ≤ i.toNat) (hj : j.toNat < 0x2F) : i ≠ j := by
  rintro rfl
  exact absurd hi (Nat.not_le.mpr hj)

theorem bounds_of_inGroup {lo hi : Nat} {i : BitVec 6} (h : inGroup lo hi i = true) : lo ≤ i.toNat ∧ i.toNat ≤ hi := by
  simpa only [inGroup, Bool.and_eq_true, decide_eq_true_eq] using h

theorem vicAfterRead_of_ne {i : BitVec 6} (h : i ≠ 0x19#6) (s : State) : vicAfterRead i s = s := if_neg h

/-- A register that is neither computed nor acknowledged nor missing is read plainly. -/
theorem vicPlainRead_eq {i : BitVec 6} (h : plainVicIndex i = true) (s : State) :
    vicPlainRead i s = answer (vicReadByte i s.vic) (vicAfterRead i s) := by
  simp only [plainVicIndex, decide_eq_true_eq] at h
  obtain ⟨h11, h12, h19, h2F⟩ := h
  rw [vicReadByte, if_neg h11, if_neg h12, if_neg (Nat.not_le.mpr h2F), vicAfterRead_of_ne h19, vicPlainRead]

theorem vicReadByte_unused {i : BitVec 6} (h : 0x2F ≤ i.toNat) (v : Vic) : vicReadByte i v = 0xFF#8 := by
  rw [vicReadByte, if_neg (ne_of_unused h (by decide)), if_neg (ne_of_unused h (by decide)), if_pos h]

/-- The row that a read's select word selects drives that byte, with that acknowledgment. -/
theorem runVic_read {op : VicOp} {i : BitVec 6} (h : lookupRow vicRows (vicWord true i) = some op) (s : State) :
    runVic op i s = .next (answer (vicReadByte i s.vic) (vicAfterRead i s)) := by
  obtain ⟨hwf, hword⟩ := encode_of_lookup_vicRows h
  cases op
  case rdSprpos | rdLp | rdSprmisc | rdColl | rdBg | rdSprcol =>
    exact congrArg Host.Outcome.next (vicPlainRead_eq (plainVicIndex_of_inGroup hwf (by decide)) s)
  case rdSpren | rdCr2 | rdSpryex | rdMemptr | rdIrqmask | rdBorder =>
    obtain ⟨-, rfl⟩ := vicWord_inj hword
    exact congrArg Host.Outcome.next (vicPlainRead_eq (by decide) s)
  case rdCr1 | rdRaster | rdIrqflag =>
    obtain ⟨-, rfl⟩ := vicWord_inj hword
    rfl
  case rdUnused =>
    have hunused := (bounds_of_inGroup hwf).1
    rw [vicReadByte_unused hunused, vicAfterRead_of_ne (ne_of_unused hunused (by decide))]
    rfl
  case wrSprpos | wrCr1 | wrRaster | wrLp | wrSpren | wrCr2 | wrSpryex | wrMemptr | wrIrqflag | wrIrqmask | wrSprmisc | wrColl
    | wrBorder | wrBg | wrSprcol | wrUnused =>
    obtain ⟨hdirection, -⟩ := vicWord_inj hword
    cases hdirection

theorem vicAccess_read (a : Addr) (s : State) :
    vicAccess true a s = .next (answer (vicReadByte (vicIndexOf a) s.vic) (vicAfterRead (vicIndexOf a) s)) := by
  obtain ⟨op, hop⟩ := Option.isSome_iff_exists.mp (lookup_vicRows_isSome (vicWord true (vicIndexOf a)))
  simp only [vicAccess, hop, runVic_read hop]

theorem vicAfterRead_read (i j : BitVec 6) (s : State) :
    (vicAfterRead i s).vic.r.read j = if i = 0x19#6 ∧ j = 0x19#6 then 0x00#8 else s.vic.r.read j := by
  unfold vicAfterRead
  split
  · next hi => simp only [setVicReg_read, hi, true_and]
  · next hi => simp only [hi, false_and, if_false]

@[simp] theorem vicAfterRead_out (i : BitVec 6) (s : State) : (vicAfterRead i s).out = s.out := by
  unfold vicAfterRead
  split <;> rfl

theorem vicAfterRead_restore (i : BitVec 6) (s : State) :
    { vicAfterRead i s with vic := { (vicAfterRead i s).vic with r := s.vic.r } } = s := by
  unfold vicAfterRead
  split <;> rfl

theorem vicIndexOf_eq_iff (a : Addr) (i : BitVec 6) : vicIndexOf a = i ↔ a.toNat % 64 = i.toNat := by
  rw [← vicIndexOf_toNat, BitVec.toNat_inj]

/-- The live bit of $11 is set from scanline 256 on (42_vic_registers.md R263). -/
theorem liveControl_eq (r : Byte) (line : BitVec 9) :
    (r &&& 0x7F#8) ||| (BitVec.ofBool (line.getLsbD 8) ++ 0#7) = if 256 ≤ line.toNat then r ||| 0x80#8 else r &&& 0x7F#8 := by
  have hlive : line.getLsbD 8 = decide (256 ≤ line.toNat) := BitVec.msb_eq_decide line
  have hset : ∀ r : Byte, (r &&& 0x7F#8) ||| 0x80#8 = r ||| 0x80#8 := by decide
  rw [hlive]
  split
  · next h => rw [decide_eq_true h]; exact hset r
  · next h => rw [decide_eq_false h]; exact BitVec.or_zero

/-- The register map in the terms of the address (42_vic_registers.md R260). -/
theorem vicReadByte_eq (a : Addr) (v : Vic) :
    vicReadByte (vicIndexOf a) v =
      if a.toNat % 64 = 0x11 then (if 256 ≤ v.line.toNat then v.r.read 0x11#6 ||| 0x80#8 else v.r.read 0x11#6 &&& 0x7F#8)
      else if a.toNat % 64 = 0x12 then BitVec.ofNat 8 v.line.toNat
      else if 0x2F ≤ a.toNat % 64 then 0xFF#8
      else v.r.read (BitVec.ofNat 6 a.toNat) := by
  have hraster : v.line.extractLsb' 0 8 = BitVec.ofNat 8 v.line.toNat := by
    apply BitVec.eq_of_toNat_eq
    rw [BitVec.extractLsb'_toNat, BitVec.toNat_ofNat, Nat.shiftRight_zero]
  simp only [vicReadByte, vicIndexOf_eq_iff, vicIndexOf_toNat, ofNat_eq_vicIndexOf, liveControl_eq, hraster, BitVec.toNat_ofNat]

/-- Settles O22: the read of the VIC, whose registers answer by the register map. -/
theorem busReadOfVic : Obligations.BusReadOfVic := by
  refine fun m a s => ⟨decodeWord_read, _, vicAccess_read a (openCycle s), ?out, ?flag, fun j hj => ?others, ?frame⟩
  case out => rw [← vicReadByte_eq, answer_out, vicAfterRead_out]; rfl
  case flag => simp [vicAfterRead_read, vicIndexOf_eq_iff]
  case others => simp [vicAfterRead_read, hj]
  case frame => exact congrArg (fun u => { u with out := s.out }) (vicAfterRead_restore (vicIndexOf a) (openCycle s))

end Sys2Proof.Machine
end

section
/-! PROOFS. A write to a device's window: D is in RAM and in the addressed device, which drives nothing; a CIA keeps its flags, and an
index without a VIC register changes no register (20_memory.md R111, 44_bus_arbiter.md R371-R373). -/

namespace Sys2Proof.Machine

/-! ### A write of a CIA -/

theorem timerHighStore_icr (x : TimerId) (d : Byte) (c : Cia) : (timerHighStore x d c).r.read 0xD#4 = c.r.read 0xD#4 := by
  obtain ⟨-, -, -, hlo, hhi, -⟩ := timer_indices_distinct x
  cases hr : timerRunning x c with
  | true => rw [timerHighStore_running d hr]
  | false => rw [timerHighStore_stopped_read d hr, if_neg hlo.symm, if_neg hhi.symm]

theorem controlStore_icr (x : TimerId) (d : Byte) (c : Cia) : (controlStore x d c).r.read 0xD#4 = c.r.read 0xD#4 := by
  obtain ⟨-, -, -, hlo, hhi, hcr⟩ := timer_indices_distinct x
  simp [controlStore_read, hlo.symm, hhi.symm, hcr.symm]

/-- The row that a write's select word selects stores into that CIA alone, and never into the flags (41_cia_registers.md R229). -/
theorem runCia_write {op : CiaOp} {k : CiaId} {i : BitVec 4} (h : lookupRow ciaRows (ciaWord k false i) = some op) (s : State) :
    ∃ c, runCia op k s = .next (s.setCia k c) ∧ c.r.read 0xD#4 = (s.cia k).r.read 0xD#4 := by
  have hword := encode_of_lookup_ciaRows h
  cases op
  case wrPra | wrPrb | wrDdra | wrDdrb | wrTod10 | wrTodsec | wrTodmin | wrTodhr | wrSdr =>
    exact ⟨_, rfl, read_write_other _ _ _ _ (by decide)⟩
  case wrTalo | wrTblo | wrIcr => exact ⟨_, rfl, rfl⟩
  case wrTahi | wrTbhi => exact ⟨_, rfl, timerHighStore_icr _ _ _⟩
  case wrCra | wrCrb => exact ⟨_, rfl, controlStore_icr _ _ _⟩
  case rdPra1 | rdPra2 | rdPrb1 | rdPrb2 | rdDdra | rdDdrb | rdTalo | rdTahi | rdTblo | rdTbhi | rdTod10 | rdTodsec | rdTodmin
    | rdTodhr | rdSdr | rdIcr | rdCra | rdCrb =>
    obtain ⟨-, hdirection, -⟩ := ciaWord_inj hword
    cases hdirection

theorem ciaAccess_write (k : CiaId) (a : Addr) (s : State) :
    ∃ c, ciaAccess k false a s = .next (s.setCia k c) ∧ c.r.read 0xD#4 = (s.cia k).r.read 0xD#4 := by
  obtain ⟨op, hop⟩ := Option.isSome_iff_exists.mp (lookup_ciaRows_isSome (ciaWord k false (ciaIndex a)))
  simpa only [ciaAccess, hop] using runCia_write hop s

/-- The bus cycle of a CIA write (44_bus_arbiter.md R371, R372). -/
theorem busWriteOfCia (k : CiaId) (a : Addr) (s : State) (hwf : s.ram.wf ramSize = true) :
    ∃ t, ciaAccess k false a (written a s) = .next t ∧
      (∀ i, decodeWord (.cia (ciaWord k false (BitVec.ofNat 4 a.toNat))) = .ok i → exec i (written a s) = .next t) ∧
      t.ram.read a.toNat = s.inp.d ∧ (∀ b, b ≠ a.toNat → t.ram.read b = s.ram.read b) ∧
      (t.cia k).r.read 0xD#4 = (s.cia k).r.read 0xD#4 ∧ t.out = { s.out with dout := none, sidWr := none } ∧
      { t.setCia k (s.cia k) with ram := s.ram, out := s.out } = s := by
  obtain ⟨c, hc, hflags⟩ := ciaAccess_write k a (written a s)
  obtain ⟨hsame, hother⟩ := storeRam_read (a := a) (s := openCycle s) hwf
  refine ⟨_, hc, fun i hi => (ciaAccess_eq_exec hi _).symm.trans hc, ?_⟩
  cases k <;> exact ⟨hsame, hother, hflags, rfl, rfl⟩

/-! ### A write of the VIC -/

/-- The row that a write's select word selects stores into the VIC's register sets alone, and into none for an index without a
register (42_vic_registers.md R295). -/
theorem runVic_write {op : VicOp} {i : BitVec 6} (h : lookupRow vicRows (vicWord false i) = some op) (s : State) :
    ∃ r w, runVic op i s = .next { s with vic := { s.vic with r := r, w := w } } ∧
      (0x2F ≤ i.toNat → r = s.vic.r ∧ w = s.vic.w) := by
  obtain ⟨hwf, hword⟩ := encode_of_lookup_vicRows h
  cases op
  case wrUnused => exact ⟨s.vic.r, s.vic.w, rfl, fun _ => ⟨rfl, rfl⟩⟩
  case wrSprpos | wrLp | wrSprmisc | wrColl | wrBg | wrSprcol =>
    exact ⟨_, s.vic.w, rfl, fun hi => absurd (Nat.le_trans hi (bounds_of_inGroup hwf).2) (by decide)⟩
  case wrSpren | wrCr2 | wrSpryex | wrMemptr | wrIrqflag | wrIrqmask | wrBorder =>
    obtain ⟨-, rfl⟩ := vicWord_inj hword
    exact ⟨_, s.vic.w, rfl, fun hi => absurd hi (by decide)⟩
  case wrCr1 =>
    obtain ⟨-, rfl⟩ := vicWord_inj hword
    exact ⟨_, _, rfl, fun hi => absurd hi (by decide)⟩
  case wrRaster =>
    obtain ⟨-, rfl⟩ := vicWord_inj hword
    exact ⟨s.vic.r, _, rfl, fun hi => absurd hi (by decide)⟩
  case rdSprpos | rdCr1 | rdRaster | rdLp | rdSpren | rdCr2 | rdSpryex | rdMemptr | rdIrqflag | rdIrqmask | rdSprmisc | rdColl
    | rdBorder | rdBg | rdSprcol | rdUnused =>
    obtain ⟨hdirection, -⟩ := vicWord_inj hword
    cases hdirection

theorem vicAccess_write (a : Addr) (s : State) :
    ∃ r w, vicAccess false a s = .next { s with vic := { s.vic with r := r, w := w } } ∧
      (0x2F ≤ a.toNat % 64 → r = s.vic.r ∧ w = s.vic.w) := by
  obtain ⟨op, hop⟩ := Option.isSome_iff_exists.mp (lookup_vicRows_isSome (vicWord false (vicIndexOf a)))
  simpa only [vicAccess, hop, vicIndexOf_toNat] using runVic_write hop s

/-- The bus cycle of a VIC write (44_bus_arbiter.md R373). -/
theorem busWriteOfVic (a : Addr) (s : State) (hwf : s.ram.wf ramSize = true) :
    ∃ t, vicAccess false a (written a s) = .next t ∧
      (∀ i, decodeWord (.vic (vicWord false (BitVec.ofNat 6 a.toNat))) = .ok i → exec i (written a s) = .next t) ∧
      t.ram.read a.toNat = s.inp.d ∧ (∀ b, b ≠ a.toNat → t.ram.read b = s.ram.read b) ∧
      (0x2F ≤ a.toNat % 64 → t.vic = s.vic) ∧ t.out = { s.out with dout := none, sidWr := none } ∧
      { t with ram := s.ram, vic := { t.vic with r := s.vic.r, w := s.vic.w }, out := s.out } = s := by
  obtain ⟨r, w, hrw, hunused⟩ := vicAccess_write a (written a s)
  obtain ⟨hsame, hother⟩ := storeRam_read (a := a) (s := openCycle s) hwf
  refine ⟨_, hrw, fun i hi => (vicAccess_eq_exec hi _).symm.trans hrw, hsame, hother, fun h => ?unused, rfl, rfl⟩
  case unused =>
    obtain ⟨rfl, rfl⟩ := hunused h
    rfl

/-- Settles O29: the write of each CIA and of the VIC, and its word decoded by its target. -/
theorem deviceWritesStoreRamAndTheirDevice : Obligations.DeviceWritesStoreRamAndTheirDevice := by
  intro m a s hwf
  obtain ⟨t₁, hexec₁, hspec₁⟩ := busWriteOfCia .cia1 a s hwf
  obtain ⟨t₂, hexec₂, hspec₂⟩ := busWriteOfCia .cia2 a s hwf
  obtain ⟨t₃, hexec₃, hspec₃⟩ := busWriteOfVic a s hwf
  exact ⟨⟨t₁, hexec₁, decodeWord_write, hspec₁⟩, ⟨t₂, hexec₂, decodeWord_write, hspec₂⟩, ⟨t₃, hexec₃, decodeWord_write, hspec₃⟩⟩

end Sys2Proof.Machine
end

section
/-! PROOFS. How a CLK and a step end: from the first RESET on a CLK always completes, and ends with the outputs of a state in which
the host's fields are as they were; before it the CLK is refused, and nothing else stops a step (44_bus_arbiter.md R350,
60_exceptions.md R400, R402, 70_reset_and_hazards.md R451). -/

namespace Sys2Proof.Machine

/-! ### The IRQ line -/

/-- What stands in u as in s: the previous CLK's IRQ level, the host's inputs, calls and draws, and that a RESET has come. -/
structure HostFrame (s u : State) : Prop where
  irqSeen : u.irqSeen = s.irqSeen
  inp : u.inp = s.inp
  calls : u.calls = s.calls
  drawn : u.drawn = s.drawn
  everReset : u.everReset = s.everReset

/-- A CLK after the first RESET completes with the outputs of some state, in the handshake as in a normal CLK. -/
theorem execClk_emits {s : State} (he : s.everReset = true) :
    ∃ nmi res u, execClk s = .next (emit nmi res u) ∧ HostFrame s u := by
  rcases Nat.eq_zero_or_pos s.rstLeft with hr | hr
  · obtain ⟨u, -, hframe, ht⟩ := execClk_normal he hr
    exact ⟨_, _, u, ht, hframe.irqSeen, hframe.inp, hframe.calls, hframe.drawn, hframe.everReset⟩
  · exact ⟨_, _, _, execClk_handshake he hr, rfl, rfl, rfl, rfl, rfl⟩

/-- SignalIRQ is called with the level when that differs from the level seen last, and else not (60_exceptions.md R402). -/
theorem emit_signalIrq (nmi res : Bool) (u : State) :
    (irqLine u = u.irqSeen → (emit nmi res u).out.signalIrq = none) ∧
      (irqLine u ≠ u.irqSeen → (emit nmi res u).out.signalIrq = some (irqLine u)) := by
  rw [emit_out]
  exact ⟨fun h => if_pos (beq_iff_eq.mpr h), fun h => if_neg (mt beq_iff_eq.mp h)⟩

/-- Settles O9: the CLK's outputs are given on a state whose `irqSeen` is still that of the previous CLK. -/
theorem clkCompletesWithIrqLevel : Obligations.ClkCompletesWithIrqLevel := by
  intro s he
  obtain ⟨nmi, res, u, ht, hframe⟩ := execClk_emits he
  obtain ⟨hsame, hdiffers⟩ := emit_signalIrq nmi res u
  rw [hframe.irqSeen] at hsame hdiffers
  exact ⟨_, ht, rfl, rfl, hsame, hdiffers, hframe.inp, hframe.calls, hframe.drawn, hframe.everReset.trans he⟩

/-! ### Stops -/

theorem execClk_beforeReset {s : State} (he : s.everReset = false) : execClk s = .refused .clkBeforeReset := by
  simp [execClk, he]

/-- A step completes, or it is a CLK before the first RESET. -/
theorem step_next_or_refused (s : State) :
    (∃ t, step s = .next t) ∨ (step s = .refused .clkBeforeReset ∧ s.everReset = false) := by
  rw [step_eq_exec]
  cases nextCall s with
  | reset => exact .inl ⟨_, rfl⟩
  | clk inp =>
    have hstarted : (latchInputs (.clk inp) (takeCall s)).everReset = s.everReset := by simp
    cases he : s.everReset with
    | true =>
      obtain ⟨_, _, _, ht, -⟩ := execClk_emits (hstarted.trans he)
      exact .inl ⟨_, ht⟩
    | false => exact .inr ⟨execClk_beforeReset (hstarted.trans he), rfl⟩

/-- Settles O12: of the two ways a step can end, neither is a fault and one is that refusal. -/
theorem stepNeverFaults : Obligations.StepNeverFaults := by
  intro s
  rcases step_next_or_refused s with ⟨t, ht⟩ | ⟨hrefused, he⟩
  · simp [ht]
  · simp [hrefused, he]

/-! ### The NMI edge -/

/-- A tick signals when an unmasked running timer is at 1 (40_timer_unit.md R170). -/
theorem timerSignal_iff (x : TimerId) (c : Cia) :
    timerSignal x c = true ↔ timerRunning x c = true ∧ timerCounter x c = 1#16 ∧ timerUnmasked x c = true := by
  simp [timerSignal, reachesZero_eq, and_assoc]

/-- Timer A's tick takes nothing from timer B's signal, so each signals by the state before the CLK (41_cia_registers.md R240). -/
theorem ciaSignal_iff (c : Cia) : ciaSignal c = true ↔ ∃ x, timerSignal x c = true := by
  rw [ciaSignal_eq, Bool.or_eq_true]
  constructor
  · rintro (ha | hb)
    · exact ⟨.a, ha⟩
    · exact ⟨.b, hb⟩
  · rintro ⟨_ | _, hx⟩
    · exact .inl hx
    · exact .inr hx

/-- Settles O13: the edge is the signal of CIA2's clock. -/
theorem nmiEdgeIsAnUnmaskedUnderflow : Obligations.NmiEdgeIsAnUnmaskedUnderflow := by
  rintro s ⟨he, hr⟩
  obtain ⟨u, -, -, ht⟩ := execClk_normal he hr
  refine ⟨_, ht, ?edge, rfl⟩
  case edge => exact (ciaSignal_iff s.cia2).trans (exists_congr fun x => timerSignal_iff x s.cia2)

end Sys2Proof.Machine
end

section
/-! PROOFS. A pending request is held: a tick raises flags and takes none back, and of the bus cycles only a read of CIA1's ICR and an
access of the VIC's $19 touch the flags (60_exceptions.md R401, R402, R408). -/

namespace Sys2Proof.Machine

/-! ### The ticks -/

theorem timerTick_holds_icr (x : TimerId) {c : Cia} (h : (c.r.read 0xD#4).getLsbD 7 = true) :
    ((timerTick x c).r.read 0xD#4).getLsbD 7 = true := by
  rw [timerTick_icr]
  split
  · exact icrRaise_aggregate x _
  · exact h

theorem ciaTick_holds_icr {c : Cia} (h : (c.r.read 0xD#4).getLsbD 7 = true) : ((ciaTick c).r.read 0xD#4).getLsbD 7 = true :=
  timerTick_holds_icr .b (timerTick_holds_icr .a h)

theorem compareRaster_holds_flag {v : Vic} (h : (v.r.read 0x19#6).getLsbD 7 = true) :
    ((compareRaster v).r.read 0x19#6).getLsbD 7 = true := by
  rw [compareRaster_flag]
  split
  · rw [vicFlagRaise, BitVec.getLsbD_or, h, Bool.true_or]
  · exact h

theorem vicTick_holds_flag (p : VideoParams) {v : Vic} (h : (v.r.read 0x19#6).getLsbD 7 = true) :
    ((vicTick p v).r.read 0x19#6).getLsbD 7 = true := by
  rcases Nat.lt_or_ge (v.cycle + 1) p.cyclesPerLine with hw | he
  · rw [vicTick_within hw]
    exact h
  · rw [vicTick_lineEnd he]
    exact compareRaster_holds_flag h

/-! ### The access -/

/-- The operation of a bus cycle, by its direction and the target of its address. -/
def cycleOp (rw : Bool) (tgt : Target) : BusOp := if rw then Laws.readOp tgt else Laws.writeOp tgt

theorem cycleOp_eq_rdCia1_iff (rw : Bool) (tgt : Target) : cycleOp rw tgt = .rdCia1 ↔ rw = true ∧ tgt = .cia1 := by
  cases rw <;> cases tgt <;> decide

theorem cycleOp_vic_iff (rw : Bool) (tgt : Target) : cycleOp rw tgt = .rdVic ∨ cycleOp rw tgt = .wrVic ↔ tgt = .vic := by
  cases rw <;> cases tgt <;> decide

/-- The row of a bus cycle is that of its address's target, for its direction. -/
theorem lookup_busRows_target {m : BitVec 3} {a : Addr} {tgt : Target} (rw : Bool) (h : readTarget m a = some tgt) :
    lookupRow busRows (busWord rw m a) = some (cycleOp rw tgt) := by
  obtain ⟨hread, hwrite⟩ := Laws.someRow_of_target m a tgt h
  cases rw
  · exact lookupRow_of_someRow hwrite
  · exact lookupRow_of_someRow hread

/-- Only a read of the ICR changes the flags of the CIA that is accessed. -/
theorem ciaAccess_keeps_icr {k : CiaId} {rw : Bool} {a : Addr} {s t : State} (h : ciaAccess k rw a s = .next t)
    (hno : ¬(rw = true ∧ ciaIndex a = 0xD#4)) : (t.cia k).r.read 0xD#4 = (s.cia k).r.read 0xD#4 := by
  cases rw with
  | true =>
    obtain rfl := Host.Outcome.next.inj ((ciaAccess_read k a s).symm.trans h)
    simpa [ciaAfterRead_read] using fun hi => absurd ⟨rfl, hi⟩ hno
  | false =>
    obtain ⟨c, hc, hflags⟩ := ciaAccess_write k a s
    obtain rfl := Host.Outcome.next.inj (hc.symm.trans h)
    rw [setCia_cia_same, hflags]

theorem ciaAccess_cia_other {j k : CiaId} {rw : Bool} {a : Addr} {s t : State} (h : ciaAccess k rw a s = .next t) (hjk : j ≠ k) :
    t.cia j = s.cia j := by
  obtain ⟨c, d, hc⟩ := ciaAccess_next k rw a s
  obtain rfl := Host.Outcome.next.inj (hc.symm.trans h)
  exact setCia_cia_other s j k c hjk

theorem ciaAccess_vic {k : CiaId} {rw : Bool} {a : Addr} {s t : State} (h : ciaAccess k rw a s = .next t) : t.vic = s.vic := by
  obtain ⟨c, d, hc⟩ := ciaAccess_next k rw a s
  obtain rfl := Host.Outcome.next.inj (hc.symm.trans h)
  exact setCia_vic k c s

theorem vicAccess_cia {rw : Bool} {a : Addr} {s t : State} (h : vicAccess rw a s = .next t) (k : CiaId) : t.cia k = s.cia k := by
  obtain ⟨r, w, d, hrw⟩ := vicAccess_next rw a s
  obtain rfl := Host.Outcome.next.inj (hrw.symm.trans h)
  cases k <;> rfl

/-- Of the VIC's rows only the two of $19 touch the flag. -/
theorem runVic_keeps_flag {op : VicOp} {rw : Bool} {i : BitVec 6} (h : lookupRow vicRows (vicWord rw i) = some op) (hi : i ≠ 0x19#6)
    (s : State) : ∃ t, runVic op i s = .next t ∧ t.vic.r.read 0x19#6 = s.vic.r.read 0x19#6 := by
  obtain ⟨-, hword⟩ := encode_of_lookup_vicRows h
  cases op
  case rdIrqflag | wrIrqflag =>
    obtain ⟨-, hindex⟩ := vicWord_inj hword
    exact absurd hindex.symm hi
  case rdSprpos | rdCr1 | rdRaster | rdLp | rdSpren | rdCr2 | rdSpryex | rdMemptr | rdIrqmask | rdSprmisc | rdColl | rdBorder
    | rdBg | rdSprcol | rdUnused | wrRaster | wrUnused =>
    exact ⟨_, rfl, rfl⟩
  case wrSprpos | wrLp | wrSprmisc | wrColl | wrBg | wrSprcol => exact ⟨_, rfl, read_write_other _ _ _ _ hi.symm⟩
  case wrCr1 | wrSpren | wrCr2 | wrSpryex | wrMemptr | wrIrqmask | wrBorder =>
    exact ⟨_, rfl, read_write_other _ _ _ _ (by decide)⟩

theorem vicAccess_keeps_flag {rw : Bool} {a : Addr} {s t : State} (h : vicAccess rw a s = .next t) (hi : vicIndexOf a ≠ 0x19#6) :
    t.vic.r.read 0x19#6 = s.vic.r.read 0x19#6 := by
  obtain ⟨op, hop⟩ := Option.isSome_iff_exists.mp (lookup_vicRows_isSome (vicWord rw (vicIndexOf a)))
  obtain ⟨u, hu, hflag⟩ := runVic_keeps_flag hop hi s
  simp only [vicAccess, hop, hu, Host.Outcome.next.injEq] at h
  exact h ▸ hflag

/-- A bus operation other than a read of CIA1's ICR keeps CIA1's flags. -/
theorem runBus_keeps_icr {op : BusOp} {m : BitVec 3} {a : Addr} {s t : State} (h : runBus op m a s = .next t)
    (hno : ¬(op = .rdCia1 ∧ ciaIndex a = 0xD#4)) : t.cia1.r.read 0xD#4 = s.cia1.r.read 0xD#4 := by
  cases op
  case rdCia1 => exact ciaAccess_keeps_icr (k := .cia1) (s := openCycle s) h fun ⟨_, hi⟩ => hno ⟨rfl, hi⟩
  case wrCia1 => exact ciaAccess_keeps_icr (k := .cia1) (s := storeRam a (openCycle s)) h fun ⟨hwrite, _⟩ => nomatch hwrite
  case rdCia2 | wrCia2 => exact congrArg (·.r.read 0xD#4) (ciaAccess_cia_other (j := .cia1) h (by decide))
  case rdVic | wrVic => exact congrArg (·.r.read 0xD#4) (vicAccess_cia h .cia1)
  case rdRam | rdSid | rdColor | rdIoexp | rdChar | rdBasic | rdKernal | wrRam | wrSid | wrColor | wrIoexp =>
    obtain rfl := Host.Outcome.next.inj h
    rfl

/-- A bus operation other than an access of the VIC's $19 keeps the VIC's flag. -/
theorem runBus_keeps_flag {op : BusOp} {m : BitVec 3} {a : Addr} {s t : State} (h : runBus op m a s = .next t)
    (hno : ¬((op = .rdVic ∨ op = .wrVic) ∧ vicIndexOf a = 0x19#6)) : t.vic.r.read 0x19#6 = s.vic.r.read 0x19#6 := by
  cases op
  case rdVic => exact vicAccess_keeps_flag (s := openCycle s) h fun hi => hno ⟨.inl rfl, hi⟩
  case wrVic => exact vicAccess_keeps_flag (s := storeRam a (openCycle s)) h fun hi => hno ⟨.inr rfl, hi⟩
  case rdCia1 | rdCia2 | wrCia1 | wrCia2 => exact congrArg (·.r.read 0x19#6) (ciaAccess_vic h)
  case rdRam | rdSid | rdColor | rdIoexp | rdChar | rdBasic | rdKernal | wrRam | wrSid | wrColor | wrIoexp =>
    obtain rfl := Host.Outcome.next.inj h
    rfl

/-! ### The CLK -/

/-- The access of a normal CLK, as the bus operation of its address's target. -/
theorem route_cycleWord {s u v : State} {tgt : Target} (htgt : readTarget (modeOf s) s.inp.a = some tgt)
    (h : route (cycleWord s) u = .next v) :
    runBus (cycleOp s.inp.rw tgt) (modeOf s) s.inp.a u = .next v := by
  simpa only [route, cycleWord, lookup_busRows_target s.inp.rw htgt, busMode_busWord, busAddr_busWord] using h

theorem route_keeps_icr {s u v : State} (h : route (cycleWord s) u = .next v) (hno : ¬readsCia s .cia1 0xD#4) :
    v.cia1.r.read 0xD#4 = u.cia1.r.read 0xD#4 := by
  obtain ⟨tgt, htgt⟩ := exists_readTarget (modeOf s) s.inp.a
  refine runBus_keeps_icr (route_cycleWord htgt h) fun ⟨hop, hi⟩ => hno ?_
  obtain ⟨hrw, rfl⟩ := (cycleOp_eq_rdCia1_iff _ _).mp hop
  exact ⟨hrw, htgt, hi⟩

theorem route_keeps_flag {s u v : State} (h : route (cycleWord s) u = .next v) (hno : ¬accessesVic s 0x19#6) :
    v.vic.r.read 0x19#6 = u.vic.r.read 0x19#6 := by
  obtain ⟨tgt, htgt⟩ := exists_readTarget (modeOf s) s.inp.a
  refine runBus_keeps_flag (route_cycleWord htgt h) fun ⟨hop, hi⟩ => hno ?_
  obtain rfl := (cycleOp_vic_iff _ _).mp hop
  exact ⟨htgt, hi⟩

theorem execClk_holds_icr {s t : State} (h : execClk s = .next t) (hset : (s.cia1.r.read 0xD#4).getLsbD 7 = true)
    (hno : ¬(Normal s ∧ readsCia s .cia1 0xD#4)) : (t.cia1.r.read 0xD#4).getLsbD 7 = true := by
  obtain ⟨he, ⟨-, rfl⟩ | ⟨hr, u, hu, -, rfl⟩⟩ := execClk_cases h
  · exact hset
  · rw [emit_cia1, route_keeps_icr hu fun hread => hno ⟨⟨he, hr⟩, hread⟩]
    exact ciaTick_holds_icr hset

theorem execClk_holds_flag {s t : State} (h : execClk s = .next t) (hset : (s.vic.r.read 0x19#6).getLsbD 7 = true)
    (hno : ¬(Normal s ∧ accessesVic s 0x19#6)) : (t.vic.r.read 0x19#6).getLsbD 7 = true := by
  obtain ⟨he, ⟨-, rfl⟩ | ⟨hr, u, hu, -, rfl⟩⟩ := execClk_cases h
  · exact hset
  · rw [emit_vic, route_keeps_flag hu fun haccess => hno ⟨⟨he, hr⟩, haccess⟩]
    exact vicTick_holds_flag videoParams hset

/-- The IRQ output after a CLK is the line that its flags drive (60_exceptions.md R402). -/
theorem execClk_irq {s t : State} (h : execClk s = .next t) : t.out.irq = irqLine t := by
  obtain ⟨-, ⟨-, rfl⟩ | ⟨-, u, -, -, rfl⟩⟩ := execClk_cases h <;> rfl

/-- Settles O14: each flag byte is held through the ticks and the access, and either holds the line. -/
theorem irqHeldUntilAcknowledged : Obligations.IrqHeldUntilAcknowledged := by
  intro s t h
  have hirq : t.out.irq = ((t.cia1.r.read 0xD#4).getLsbD 7 || (t.vic.r.read 0x19#6).getLsbD 7) := execClk_irq h
  refine ⟨fun hset hno => ?cia, fun hset hno => ?vic⟩
  case cia =>
    have hheld := execClk_holds_icr h hset hno
    exact ⟨hheld, by rw [hirq, hheld, Bool.true_or]⟩
  case vic =>
    have hheld := execClk_holds_flag h hset hno
    exact ⟨hheld, by rw [hirq, hheld, Bool.or_true]⟩

end Sys2Proof.Machine
end

section
/-! PROOFS. The first RESET (70_reset_and_hazards.md R451, 92_eei_decisions.md D55). -/

namespace Sys2Proof.Machine

/-- Settles O11: the CLK operation asks first whether a RESET has come. -/
theorem clkBeforeFirstResetRefused : Obligations.ClkBeforeFirstResetRefused := by
  intro s he
  exact execClk_beforeReset he

end Sys2Proof.Machine
end

section
/-! PROOFS. What RESET makes of a state, and of a construction with any RAM (70_reset_and_hazards.md R450, 92_eei_decisions.md D55,
D44). -/

namespace Sys2Proof.Machine

/-- Settles O18: RESET of a construction is `State.reset` in every field but RAM, which it keeps; of any state, it idles the outputs,
sets `everReset`, and writes none of the four fields kept. -/
theorem resetOfAConstruction : Obligations.ResetOfAConstruction := by
  refine ⟨fun _ => ?construction, fun _ => ⟨_, rfl, ?outputsIdle, ?resetHasCome, ?inputsCallsAndIrqSeenKept⟩⟩
  case construction => rfl
  case outputsIdle => rfl
  case resetHasCome => rfl
  case inputsCallsAndIrqSeenKept => exact ⟨rfl, rfl, rfl, rfl⟩

end Sys2Proof.Machine
end
